-- ==== Sys2Proof/Word.lean ====
section
/-! DEFINITION. The byte of the serial link, and the plain names for bells, slots and schedule entries. -/

namespace Sys2Proof

/-- One byte as it crosses the serial line (R186, R189). -/
abbrev Byte := BitVec 8

/-- A bell number, 0 to 63 (00_scope.md, Bells): the channel, gate output and impact input of that number. -/
abbrev Bell := Fin 64

/-- A score slot's number, 0 to 31 (R20). -/
abbrev SlotNo := Fin 32

/-- A schedule entry's index, 0 to 95 (R47). -/
abbrev EntryNo := Fin 96

/-- A strike time base value: milliseconds since the last start (00_scope.md, Strike time base).
DESIGN CHOICE (log 17, unsafe past 2^48 ms): held unbounded; the 48 bits are the width of a reply's field. -/
abbrev Stb := Nat

end Sys2Proof
end

