-- ==== Sys2Proof/Config.lean ====
section
/-! DEFINITION. What the manual fixes by number, and the free value where it fixes none. -/

namespace Sys2Proof.Config

/-- The free value of a window's observation whose leading edge lies before the pulse start it is measured from: R167
calls it a very short flight, and no rule gives its value (log 7). The argument is State.freeIndex; nothing can be
proved of the result. -/
opaque freeObservation : Nat → Nat

/-- The most that such an observation can be, in ticks16: the edge lies at most 1 ms before the pulse start (R164, R167;
DESIGN CHOICE, log 7). -/
def shortestFlight : Nat := 16

/-- At most 16 cues wait in the Cue List (R66). -/
def cueListMax : Nat := 16
/-- At most 96 entries wait in the Strike Queue (R127). -/
def strikeQueueMax : Nat := 96
/-- At most 4 contexts stand in the breath log (R110). -/
def breathLogMax : Nat := 4
/-- The receive FIFO holds at most 64 bytes (R187). -/
def fifoMax : Nat := 64
/-- The FIFO count at which HOLDO is asserted (R188). -/
def holdOn : Nat := 48
/-- The FIFO count at which HOLDO is released (R188). -/
def holdOff : Nat := 16
/-- The Notice Queue holds at most 32 notices (R197). -/
def noticeMax : Nat := 32
/-- The planner's horizon, and the origin's distance from the stint start, in ms (R75, R104). -/
def horizon : Nat := 1000
/-- The settle, in ms (R90). -/
def settleTime : Nat := 2000
/-- The debounce of ILOCK, RAILLO and RAILFL, in ms (R88, R156). -/
def debounceTime : Nat := 50
/-- The gap timeout, in ms (R192). -/
def gapTime : Nat := 20
/-- The wait allowed to a test draw, in ms (R177). -/
def testWait : Nat := 1000
/-- The longest catch-up, in seconds (R41). -/
def catchUpMax : Int := 120
/-- The consecutive misses that fault a channel (R172). -/
def missLimit : Nat := 3
/-- The consecutive outliers that fault a channel (R172). -/
def outlierLimit : Nat := 6
/-- The milliseconds of a calendar second (R36). -/
def phaseEnd : Nat := 1000
/-- The blocks of the pool (R21). -/
def blockCount : Nat := 512
/-- The records of a block (R21). -/
def blockRecords : Nat := 16

end Sys2Proof.Config
end

