-- ==== Sys2Proof/Syntax.lean ====
section
/-! DEFINITION. The commands: one constructor for each row of spec/opcode_table.json, in the table's order, with
the row's operands. A request row carries the TAG and the payload bytes of its frame (R189, R195). -/

namespace Sys2Proof

/-- Why a frame was rejected (R191, R194). -/
inductive RejectReason
  | check | parity | framing | overrun | length | timeout
deriving DecidableEq, Repr

/-- The two supply lines of Striking Power: RAILLO and RAILFL (R156). -/
inductive RailLine
  | low | failing
deriving DecidableEq, Repr

/-- The request kinds (12_frame_and_record_layouts.md, Codes). -/
inductive ReqKind
  | status | restart | timeSet | timeGet | scoreBegin | scoreData
  | scoreEnd | scoreErase | scoreInfo | schedWrite | schedRead | schedEnable
  | schedClear | play | stop | cueRead | settingsWrite | settingsRead
  | bellWrite | bellRead | bellEnable | bellDisable | bellClearFault | strike
  | testChannel
deriving DecidableEq, Repr

/-- How far a start gets before the next command (R204): to operation; or only begun, its kind decided; or up to
operation, with the retained blocks done and the latch clear. What comes next to one of the last two comes during the
start, and a stop abandons it (log 15). -/
inductive StartReach
  | completed | begun | prepared
deriving DecidableEq, Repr

/-- What a start meets at the part's pins and on its way: the levels of BSEL1 and BSEL0 (log 13), VBAK below 1.8 V or not
(log 32), and how far the start gets. -/
structure StartInputs where
  straps : BitVec 2
  vbakLow : Bool
  reach : StartReach
deriving DecidableEq, Repr

/-- The commands of spec/opcode_table.json. -/
inductive Instr
  /-- STATUS (R198): a good frame of this kind reaches the Request Handler. -/
  | status (tag : Byte) (payload : List Byte)
  /-- RESTART (R205): a good frame of this kind reaches the Request Handler. -/
  | restart (tag : Byte) (payload : List Byte)
  /-- TIME_SET (R39 to R41): a good frame of this kind reaches the Request Handler. -/
  | timeSet (tag : Byte) (payload : List Byte)
  /-- TIME_GET (R44): a good frame of this kind reaches the Request Handler. -/
  | timeGet (tag : Byte) (payload : List Byte)
  /-- SCORE_BEGIN (R22, R23): a good frame of this kind reaches the Request Handler. -/
  | scoreBegin (tag : Byte) (payload : List Byte)
  /-- SCORE_DATA (R24): a good frame of this kind reaches the Request Handler. -/
  | scoreData (tag : Byte) (payload : List Byte)
  /-- SCORE_END (R25): a good frame of this kind reaches the Request Handler. -/
  | scoreEnd (tag : Byte) (payload : List Byte)
  /-- SCORE_ERASE (R26): a good frame of this kind reaches the Request Handler. -/
  | scoreErase (tag : Byte) (payload : List Byte)
  /-- SCORE_INFO (R27): a good frame of this kind reaches the Request Handler. -/
  | scoreInfo (tag : Byte) (payload : List Byte)
  /-- SCHED_WRITE (R57, R58): a good frame of this kind reaches the Request Handler. -/
  | schedWrite (tag : Byte) (payload : List Byte)
  /-- SCHED_READ (R59): a good frame of this kind reaches the Request Handler. -/
  | schedRead (tag : Byte) (payload : List Byte)
  /-- SCHED_ENABLE (R60): a good frame of this kind reaches the Request Handler. -/
  | schedEnable (tag : Byte) (payload : List Byte)
  /-- SCHED_CLEAR (R61): a good frame of this kind reaches the Request Handler. -/
  | schedClear (tag : Byte) (payload : List Byte)
  /-- PLAY (R71): a good frame of this kind reaches the Request Handler. -/
  | play (tag : Byte) (payload : List Byte)
  /-- STOP (R93): a good frame of this kind reaches the Request Handler. -/
  | stop (tag : Byte) (payload : List Byte)
  /-- CUE_READ (R72): a good frame of this kind reaches the Request Handler. -/
  | cueRead (tag : Byte) (payload : List Byte)
  /-- SETTINGS_WRITE (R98, R149, R160): a good frame of this kind reaches the Request Handler. -/
  | settingsWrite (tag : Byte) (payload : List Byte)
  /-- SETTINGS_READ (R98, R161): a good frame of this kind reaches the Request Handler. -/
  | settingsRead (tag : Byte) (payload : List Byte)
  /-- BELL_WRITE (R8 to R10): a good frame of this kind reaches the Request Handler. -/
  | bellWrite (tag : Byte) (payload : List Byte)
  /-- BELL_READ (R12): a good frame of this kind reaches the Request Handler. -/
  | bellRead (tag : Byte) (payload : List Byte)
  /-- BELL_ENABLE (R142): a good frame of this kind reaches the Request Handler. -/
  | bellEnable (tag : Byte) (payload : List Byte)
  /-- BELL_DISABLE (R143): a good frame of this kind reaches the Request Handler. -/
  | bellDisable (tag : Byte) (payload : List Byte)
  /-- BELL_CLEAR_FAULT (R145): a good frame of this kind reaches the Request Handler. -/
  | bellClearFault (tag : Byte) (payload : List Byte)
  /-- STRIKE (R148): a good frame of this kind reaches the Request Handler. -/
  | strike (tag : Byte) (payload : List Byte)
  /-- TEST_CHANNEL (R176, R177): a good frame of this kind reaches the Request Handler. -/
  | testChannel (tag : Byte) (payload : List Byte)
  /-- BAD_KIND_REQUEST (R195): a good frame whose KIND names no request. -/
  | badKindRequest (kind tag : Byte) (payload : List Byte)
  /-- FRAME_REJECT (R194): a damaged frame ends; the KIND and TAG bytes are present where they were taken. -/
  | frameReject (reason : RejectReason) (kind tag : Option Byte)
  /-- BYTE_RECEIVED (R186, R187): a character ends; `true` is a one, or the line at mark. -/
  | byteReceived (data : Byte) (parityBit stopBit : Bool)
  /-- GAP_TIMEOUT (R192). -/
  | gapTimeout
  /-- LINE_BREAK (R193): the 22nd bit time of space is complete. -/
  | lineBreak
  /-- TRANSMIT_FRAME_END (R196). -/
  | transmitFrameEnd
  /-- SECOND_STEP (R36): the calendar oscillator completes a second. -/
  | secondStep
  /-- CUE_EXPIRY (R69). -/
  | cueExpiry (cueId : Byte)
  /-- HELD_EXPIRY (R92). -/
  | heldExpiry
  /-- STINT_ORIGIN (R76). -/
  | stintOrigin
  /-- YIELD_CUT (R85). -/
  | yieldCut
  /-- SUSPENSION_COMPLETE (R84, R86). -/
  | suspensionComplete
  /-- PERFORMANCE_COMPLETE (R78). -/
  | performanceComplete
  /-- ILOCK_LINE_CHANGE (R88): the ILOCK line takes this level. -/
  | ilockLineChange (asserted : Bool)
  /-- INTERLOCK_DEBOUNCED (R88). -/
  | interlockDebounced
  /-- SETTLE_END (R91). -/
  | settleEnd
  /-- PLANNER_TAKE (R104). -/
  | plannerTake
  /-- PLANNER_RESUME (R113, R118). -/
  | plannerResume
  /-- CONTEXT_RETIRE (R112). -/
  | contextRetire
  /-- ENTRY_FIRE (R133, R135). -/
  | entryFire
  /-- LATE_DROP (R132). -/
  | lateDrop
  /-- PULSE_END (R136). -/
  | pulseEnd (bell : Bell)
  /-- RECOVERY_END (R137). -/
  | recoveryEnd (bell : Bell)
  /-- REFILL_STEP (R153). -/
  | refillStep
  /-- RAIL_LINE_CHANGE (R156): the line takes this level. -/
  | railLineChange (line : RailLine) (asserted : Bool)
  /-- RAIL_DEBOUNCED (R156, R157). -/
  | railDebounced (line : RailLine)
  /-- IMPACT_INPUT_ASSERT (R164): the leading edge lies this many sixteenths into the millisecond. -/
  | impactInputAssert (bell : Bell) (sixteenth : Fin 16)
  /-- IMPACT_RECOGNISED (R164, R165). -/
  | impactRecognised (bell : Bell)
  /-- WINDOW_CLOSE (R168). -/
  | windowClose (bell : Bell)
  /-- TEST_PULSE_START (R178). -/
  | testPulseStart
  /-- TEST_WAIT_DEADLINE (R178). -/
  | testWaitDeadline
  /-- ISMIN_ASSERT (R179): the ISMIN line takes this level (log 12). -/
  | isminAssert (asserted : Bool)
  /-- ISOVR_ASSERT (R179): the ISOVR line takes this level (log 12). -/
  | isovrAssert (asserted : Bool)
  /-- TEST_PULSE_END (R179). -/
  | testPulseEnd
  /-- TEST_WINDOW_CLOSE (R180). -/
  | testWindowClose
  /-- TEST_END (R181). -/
  | testEnd
  /-- MAIN_POWER_FAIL (R203). -/
  | mainPowerFail
  /-- RSTN_LOW (R203). -/
  | rstnLow
  /-- VBAK_LOW (R202): the backup supply falls below 1.8 V (log 32). -/
  | vbakLow
  /-- POWER_ON_START (R203, R204): main power returns. -/
  | powerOnStart (start : StartInputs)
  /-- RESET_PIN_START (R203, R204): RSTN returns high. -/
  | resetPinStart (start : StartInputs)
  /-- RESTART_TAKES_EFFECT (R204, R205). -/
  | restartTakesEffect (start : StartInputs)
  /-- IMPACT_INPUT_CLEAR (R164): the impact input returns to clear. -/
  | impactInputClear (bell : Bell)
  /-- LINE_RETURN_TO_MARK (R193). -/
  | lineReturnToMark
deriving DecidableEq, Repr

end Sys2Proof
end

