-- ==== Sys2Proof/Decode.lean ====
section
/-! DEFINITION. The KIND codes of the requests, the bytes of a frame, and the host's word decoder (no row of
spec/opcode_table.json has bits, so it answers none). -/

namespace Sys2Proof

/-- The KIND byte of each request (12_frame_and_record_layouts.md, Codes). -/
def ReqKind.code : ReqKind → Byte
  | .status => 0x01
  | .restart => 0x02
  | .timeSet => 0x10
  | .timeGet => 0x11
  | .scoreBegin => 0x20
  | .scoreData => 0x21
  | .scoreEnd => 0x22
  | .scoreErase => 0x23
  | .scoreInfo => 0x24
  | .schedWrite => 0x30
  | .schedRead => 0x31
  | .schedEnable => 0x32
  | .schedClear => 0x33
  | .play => 0x40
  | .stop => 0x41
  | .cueRead => 0x42
  | .settingsWrite => 0x44
  | .settingsRead => 0x45
  | .bellWrite => 0x50
  | .bellRead => 0x51
  | .bellEnable => 0x52
  | .bellDisable => 0x53
  | .bellClearFault => 0x54
  | .strike => 0x55
  | .testChannel => 0x56

/-- Every request kind, in the order of the table. -/
def ReqKind.all : List ReqKind :=
  [.status, .restart, .timeSet, .timeGet, .scoreBegin, .scoreData, .scoreEnd,
   .scoreErase, .scoreInfo, .schedWrite, .schedRead, .schedEnable, .schedClear, .play,
   .stop, .cueRead, .settingsWrite, .settingsRead, .bellWrite, .bellRead, .bellEnable,
   .bellDisable, .bellClearFault, .strike, .testChannel]

/-- The request a KIND byte names, if it names one (R195, first check). -/
def ReqKind.ofCode (kind : Byte) : Option ReqKind :=
  ReqKind.all.find? fun k => k.code == kind

/-- The command of a good frame with this KIND, TAG and payload (R195). -/
def commandOf (kind tag : Byte) (payload : List Byte) : Instr :=
  match ReqKind.ofCode kind with
  | some .status => .status tag payload
  | some .restart => .restart tag payload
  | some .timeSet => .timeSet tag payload
  | some .timeGet => .timeGet tag payload
  | some .scoreBegin => .scoreBegin tag payload
  | some .scoreData => .scoreData tag payload
  | some .scoreEnd => .scoreEnd tag payload
  | some .scoreErase => .scoreErase tag payload
  | some .scoreInfo => .scoreInfo tag payload
  | some .schedWrite => .schedWrite tag payload
  | some .schedRead => .schedRead tag payload
  | some .schedEnable => .schedEnable tag payload
  | some .schedClear => .schedClear tag payload
  | some .play => .play tag payload
  | some .stop => .stop tag payload
  | some .cueRead => .cueRead tag payload
  | some .settingsWrite => .settingsWrite tag payload
  | some .settingsRead => .settingsRead tag payload
  | some .bellWrite => .bellWrite tag payload
  | some .bellRead => .bellRead tag payload
  | some .bellEnable => .bellEnable tag payload
  | some .bellDisable => .bellDisable tag payload
  | some .bellClearFault => .bellClearFault tag payload
  | some .strike => .strike tag payload
  | some .testChannel => .testChannel tag payload
  | none => .badKindRequest kind tag payload

/-- SYNC, the first byte of every frame (R189). -/
def syncByte : Byte := 0xC3

/-- CHECK: the byte that makes the 8-bit sum of LEN, KIND, TAG, payload and CHECK zero (R189). -/
def checkByte (len kind tag : Byte) (payload : List Byte) : Byte :=
  -(payload.foldl (· + ·) (len + kind + tag))

/-- The bytes of a frame, in the order sent: SYNC, LEN, KIND, TAG, payload, CHECK (R189). -/
def frameBytes (kind tag : Byte) (payload : List Byte) : List Byte :=
  let len := BitVec.ofNat 8 payload.length
  syncByte :: len :: kind :: tag :: (payload ++ [checkByte len kind tag payload])

/-- The host's decoder. No row of spec/opcode_table.json gives bits, so no word spells a command. -/
def decodeTableWord (_nbits _w : Nat) : Option Instr := none

end Sys2Proof
end

