-- ==== Sys2Proof/Machine/State.lean ====
section
/-! DEFINITION. Everything the manual gives the DX64 to hold, block by block, as plain data, and the machine right
after reset. The operations over it stand in the other files of this folder. -/

namespace Sys2Proof.Machine

/-- The reasons a command could stop the machine with a fault. There are none: the manual gives the part an answer
to every command in every state, so no constructor raises one (INVENTORY.md, Faults). -/
inductive Fault
deriving DecidableEq, Repr

/-- The reasons a command could be refused. -/
inductive Refusal
  /-- A command whose meaning is not written. Raised by exec's refused arms alone, of which there are none now;
  safe, since nothing can be proved of what would follow. -/
  | notModelled (mnemonic : String)
deriving DecidableEq, Repr

/-! ## Codes of the manual (12_frame_and_record_layouts.md) -/

/-- A reply's status. -/
inductive Status
  | ok | accepted | badKind | badLength | param | busy | noSpace | sequence | badScore | notFound | held | listFull
  | channelState | noTime
deriving DecidableEq, Repr

/-- Why operation last started (R204). -/
inductive StartCause
  | cold | warm | restart
deriving DecidableEq, Repr

/-- How a performance answers a cue of better priority (R79). -/
inductive Mode
  | firm | interruptible | abortable
deriving DecidableEq, Repr

/-- Why a cue's END notice was queued (R96). -/
inductive EndCause
  | completed | aborted | preempted | suspended | expired | cancelled | evicted
deriving DecidableEq, Repr

/-- Why a schedule entry's match made no cue (R55). -/
inductive SkipReason
  | latched | noScore | listFull
deriving DecidableEq, Repr

/-- Why a channel was last faulted (R2, R5). -/
inductive FaultCause
  | none | noImpact | erratic
deriving DecidableEq, Repr

/-- The level of the striker rail (R157). -/
inductive RailLevel
  | normal | low | fail
deriving DecidableEq, Repr

/-- A channel test's result (R183). -/
inductive TestResult
  | ok | noImpact | early | coilOpen | short | notFired | interrupted
deriving DecidableEq, Repr

/-! ## Calendar Clock and Schedule Table -/

/-- A calendar second (R33): the six fields without the clock's own state. -/
structure CalTime where
  year : Nat
  month : Nat
  day : Nat
  hour : Nat
  minute : Nat
  second : Nat
deriving DecidableEq, Repr

/-- The Calendar Clock (R33). The weekday is derived (R35). `stepDue` is the model's own: the oscillator has run the
second out and the second step is still to be taken (R36, R43; log 8). -/
structure Calendar where
  time : CalTime
  valid : Bool
  phase : Nat
  stepDue : Bool
deriving DecidableEq, Repr

/-- A last-fire stamp: a civil minute (R47). -/
structure Stamp where
  year : Nat
  month : Nat
  day : Nat
  hour : Nat
  minute : Nat
deriving DecidableEq, Repr

/-- The day field of a pattern (R48). -/
inductive DayPattern
  | on (day : Nat) | last | any
deriving DecidableEq, Repr

/-- A pattern (R48); `none` is ANY. The sets are the link's own bit sets (R209). -/
structure Pattern where
  second : Nat
  minute : Option Nat
  hour : Option Nat
  weekdays : BitVec 8
  day : DayPattern
  months : BitVec 16
deriving DecidableEq, Repr

/-- How a COUNT action's stroke count is derived (R45). -/
inductive CountRule
  | hour12 | quarter | fixed (count : Nat)
deriving DecidableEq, Repr

/-- An action as a request or a schedule entry gives it (R49, R71): the count is still a rule. -/
inductive ActionSpec
  | score (slot : SlotNo) (beatOverride repeatsOverride : Nat)
  | count (bell : Bell) (velocity interval : Nat) (rule : CountRule)
deriving DecidableEq, Repr

/-- A DEFINED schedule entry (R47 to R49). The mode is kept as written (R49). -/
structure SchedEntry where
  enabled : Bool
  latched : Bool
  stamp : Option Stamp
  pattern : Pattern
  priority : Nat
  mode : Mode
  maxWait : Nat
  action : ActionSpec
deriving DecidableEq, Repr

/-! ## Score Store -/

/-- A slot's state (R20). -/
inductive SlotState
  | empty | loading | ready
deriving DecidableEq, Repr

/-- A score header (R14). -/
structure Header where
  recordCount : Nat
  defaultBeat : Nat
  repeats : Nat
  repeatGap : Nat
deriving DecidableEq, Repr

/-- A score slot (R20). -/
structure Slot where
  state : SlotState
  header : Option Header
  chain : List Nat
  nextOffset : Nat
  refCount : Nat
deriving DecidableEq, Repr

/-- The Score Store: its slots, and the pool's bytes as a sparse list (R20, R21). The free set is derived. -/
structure ScoreStore where
  slots : Vector Slot 32
  mem : List Host.Cell
deriving DecidableEq, Repr

/-! ## Cues and the Performance Engine -/

/-- A point of a score from which a stint can begin (R64); a COUNT cue's is its first stroke, all zero. -/
structure Context where
  index : Nat
  repeats : Nat
  beat : Nat
deriving DecidableEq, Repr

/-- The counters of a cue (R64, R94). -/
structure Counters where
  planned : Nat
  fired : Nat
  firedLate : Nat
  dropped : Nat
  suspensions : Nat
deriving DecidableEq, Repr

/-- Where a cue came from (R64). -/
inductive Source
  | schedule (entry : EntryNo) | direct
deriving DecidableEq, Repr

/-- A cue's action (R64): the stroke count is derived at creation. -/
inductive Action
  | score (slot : SlotNo) (beatOverride repeatsOverride : Nat)
  | count (bell : Bell) (velocity interval strokes : Nat)
deriving DecidableEq, Repr

/-- A cue (R64). -/
structure Cue where
  id : Nat
  source : Source
  action : Action
  priority : Nat
  mode : Mode
  maxWait : Nat
  entryTime : Stb
  started : Bool
  saved : Option Context
  counters : Counters
deriving DecidableEq, Repr

/-- The Cue List (R65, R66). -/
structure CueList where
  waiting : List Cue
  nextId : Nat
deriving DecidableEq, Repr

/-- A context of the breath log (R110). -/
structure LogContext where
  phrase : Nat
  index : Nat
  repeats : Nat
  beat : Nat
  sound : Stb
deriving DecidableEq, Repr

/-- A yield in progress (R82). -/
structure Yield where
  start : Stb
  deadline : Stb
  point : Option LogContext
deriving DecidableEq, Repr

/-- The current performance (R73). `fromSaved` says whether the stint began from a saved or resume context, which is
what CUE_READ reports as the context's presence (R72). -/
structure Performance where
  cue : Cue
  context : Context
  fromSaved : Bool
  start : Stb
  origin : Stb
  yield : Option Yield
deriving DecidableEq, Repr

/-- The held performance (R73). -/
structure HeldPerformance where
  cue : Cue
  context : Context
deriving DecidableEq, Repr

/-- The engine's states (R73). -/
inductive EngineState
  | idle | starting | playing | yielding | draining | held
deriving DecidableEq, Repr

/-- A debounced input line (R88, R156): its level, its debounced level, and while a change is pending the STB at which
the line last changed. -/
structure Debouncer where
  line : Bool
  level : Bool
  since : Option Stb
deriving DecidableEq, Repr

/-- The Performance Engine (R73), with its hold sources and the ILOCK line's debouncer (R88). -/
structure Engine where
  state : EngineState
  current : Option Performance
  held : Option HeldPerformance
  interlock : Bool
  fail : Bool
  holdStart : Stb
  settle : Option Stb
  breathLimit : Nat
  ilock : Debouncer
deriving DecidableEq, Repr

/-! ## Strike Planner -/

/-- The planner's states (R101). -/
inductive PlannerState
  | idle | planning | stalled | stopped | done
deriving DecidableEq, Repr

/-- Why the planner is stalled (R101, R113, R118). -/
inductive StallCause
  | queue | log
deriving DecidableEq, Repr

/-- The planner's cursor (R101); `index` is the stroke index of a COUNT action. -/
structure Cursor where
  index : Nat
  repeats : Nat
  beat : Nat
  remainder : Nat
  point : Stb
deriving DecidableEq, Repr

/-- The stint the planner serves (R101, R103). The header's fields are 0 for a COUNT action. -/
structure Stint where
  cueId : Nat
  action : Action
  origin : Stb
  header : Header
  baseBeat : Nat
  baseRepeats : Nat
  cursor : Cursor
deriving DecidableEq, Repr

/-- The Strike Planner (R101). -/
structure Planner where
  state : PlannerState
  stint : Option Stint
  stall : Option StallCause
  log : List LogContext
  phrase : Nat
  shadow : Vector Stb 64
deriving DecidableEq, Repr

/-! ## Strike Queue and Channel Dispatcher -/

/-- What a strike entry was placed for (R126). -/
inductive EntryOrigin
  | performance (cueId phrase : Nat) | direct
deriving DecidableEq, Repr

/-- A strike entry (R126). -/
structure StrikeEntry where
  bell : Bell
  velocity : Nat
  width : Nat
  cost : Nat
  target : Stb
  earliest : Stb
  sound : Stb
  origin : EntryOrigin
deriving DecidableEq, Repr

/-- A channel's states (R129, R130). -/
inductive ChannelState
  | absent | disabled | ready | firing | recovering | fault | testing
deriving DecidableEq, Repr

/-- A channel record, with its gate output (R129, R130). -/
structure Channel where
  state : ChannelState
  pulseEnd : Option Stb
  recoveryEnd : Stb
  prior : Option ChannelState
  gate : Bool
deriving DecidableEq, Repr

/-! ## Striking Power -/

/-- Striking Power's account, its settings and its rail lines (R152); the late limit is R149's. -/
structure Reservoir where
  charge : Nat
  capacity : Nat
  refillRate : Nat
  lateLimit : Nat
  rail : RailLevel
  low : Debouncer
  failing : Debouncer
  testDraw : Option (Bell × Nat)
deriving DecidableEq, Repr

/-! ## Flight Monitor -/

/-- An open impact window (R166). -/
structure Window where
  pulseStart : Stb
  velocity : Nat
  closeTime : Stb
  answered : Bool
deriving DecidableEq, Repr

/-- An impact input and its filter (R164, R185): clear; asserted and being filtered, with its leading edge in
sixteenths of a millisecond; or asserted and to be seen clear before it can give an impact. -/
inductive ImpactInput
  | clear | filtering (edge : Nat) | asserted
deriving DecidableEq, Repr

/-- A test's phase (R175). -/
inductive TestPhase
  | waiting | pulse | listening | settled
deriving DecidableEq, Repr

/-- The test record (R175). An observation is negative when the leading edge lies before the pulse start (R180). -/
structure ChannelTest where
  bell : Bell
  phase : TestPhase
  acceptedAt : Stb
  deadline : Stb
  width : Nat
  cost : Nat
  windowLength : Nat
  earlyLimit : Nat
  pulseStart : Option Stb
  pulseEnd : Option Stb
  minSeen : Bool
  observation : Option Int
  result : Option TestResult
deriving DecidableEq, Repr

/-- The Flight Monitor and the pins it reads (R164, R166, R175, R179). -/
structure Monitor where
  windows : Vector (Option Window) 64
  inputs : Vector ImpactInput 64
  test : Option ChannelTest
  ismin : Bool
  isovr : Bool
deriving DecidableEq, Repr

/-! ## Bell Table -/

/-- A bell's configuration part (R1). -/
structure BellConfig where
  present : Bool
  driveWidth : Nat
  recovery : Nat
  coilClass : Nat
  floor : Nat
  ceiling : Nat
  seed : Nat
  learning : Bool
deriving DecidableEq, Repr

/-- A bell record: the configuration and the service part (R1, R2). -/
structure BellRecord where
  config : BellConfig
  enabled : Bool
  faultCause : FaultCause
  flight : Nat
  fired : Nat
  strays : Nat
  misses : Nat
  outliers : Nat
deriving DecidableEq, Repr

/-! ## Link Port and Notice Queue -/

/-- A received byte with its marks (R186, R187). -/
structure RxByte where
  data : Byte
  parity : Bool
  framing : Bool
  overrun : Bool
deriving DecidableEq, Repr

/-- The frame assembler (R190): in BODY, the LEN byte and the bytes taken after it, oldest first. -/
inductive Assembler
  | hunting | length | body (len : RxByte) (got : List RxByte)
deriving DecidableEq, Repr

/-- A frame that has ended (R191): good, or rejected with what of its KIND and TAG was taken. -/
inductive EndedFrame
  | good (kind tag : Byte) (payload : List Byte)
  | rejected (reason : RejectReason) (kind tag : Option Byte)
deriving DecidableEq, Repr

/-- A frame to be sent (R189): its bytes follow from these. -/
structure Frame where
  kind : Byte
  tag : Byte
  payload : List Byte
deriving DecidableEq, Repr

/-- The transmitter (R196). `left` is the model's own: thousandths of a bit time still to send (log 10). -/
inductive Transmitter
  | idle | sending (frame : Frame) (isReply : Bool) (left : Nat)
deriving DecidableEq, Repr

/-- The Link Port (R186 to R196). `restartPending` is R205's interval; `inBreak` is R193's wait for mark. -/
structure Link where
  fifo : List RxByte
  holdo : Bool
  assembler : Assembler
  ended : Option EndedFrame
  gapDeadline : Option Stb
  reply : Option Frame
  transmitter : Transmitter
  straps : BitVec 2
  rate : Nat
  inBreak : Bool
  restartPending : Bool
deriving DecidableEq, Repr

/-- The notices (12_frame_and_record_layouts.md, Other payloads), each with its payload's fields. -/
inductive Notice
  | start (cause : StartCause)
  | perfStart (cueId : Nat) (source : Source) (action : Action)
  | cueEnd (cueId : Nat) (cause : EndCause) (counters : Counters)
  | fireSkipped (entry : EntryNo) (reason : SkipReason)
  | channelFault (bell : Bell) (cause : FaultCause)
  | strayImpact (bell : Bell)
  | hold (entering : Bool) (interlock fail : Bool)
  | rail (level : RailLevel)
  | timeJump (delta : Int) (skipped : Bool)
  | testResult (bell : Bell) (result : TestResult) (observation : Nat)
deriving DecidableEq, Repr

/-- The Notice Queue (R197), oldest first. -/
structure NoticeQueue where
  waiting : List Notice
  overflow : Bool
deriving DecidableEq, Repr

/-! ## The whole machine -/

/-- The supplies, the reset pin and the Retention Monitor (R202 to R204). `vbakLow` is the level of the backup supply,
below 1.8 V or not; `starting` holds the straps of a start that has begun and is not complete (R204; log 15). -/
structure Supply where
  operating : Bool
  mainInRange : Bool
  rstnHigh : Bool
  vbakLow : Bool
  starting : Option (BitVec 2)
  retentionLost : Bool
  startCause : StartCause
deriving DecidableEq, Repr

/-- The DX64. `pending` is the queue of commands that wait; `refillDue` says that the present millisecond's refill
step is still to be taken (log 2); `freeIndex` numbers the free values (log 7). -/
structure State where
  pending : List Instr
  stb : Stb
  refillDue : Bool
  freeIndex : Nat
  supply : Supply
  calendar : Calendar
  schedule : Vector (Option SchedEntry) 96
  scores : ScoreStore
  cues : CueList
  engine : Engine
  planner : Planner
  queue : List StrikeEntry
  channels : Vector Channel 64
  reservoir : Reservoir
  monitor : Monitor
  bells : Vector BellRecord 64
  link : Link
  notices : NoticeQueue
deriving DecidableEq, Repr

/-! ## Reset -/

/-- An EMPTY slot (R20). -/
def emptySlot : Slot :=
  { state := .empty, header := none, chain := [], nextOffset := 0, refCount := 0 }

/-- A line read clear at a start, with no change pending (R100, R163; the level is log 14's choice at reset). -/
def clearLine : Debouncer :=
  { line := false, level := false, since := none }

/-- A bell record after a cold start (R1, R13). -/
def coldBell : BellRecord :=
  { config :=
      { present := false, driveWidth := 20, recovery := 200, coilClass := 1, floor := 5, ceiling := 200, seed := 50
        learning := true }
    enabled := false, faultCause := .none, flight := 800, fired := 0, strays := 0, misses := 0, outliers := 0 }

/-- A channel with no pulse, no prior state and recovery end 0 (R151). -/
def restChannel (state : ChannelState) : Channel :=
  { state := state, pulseEnd := none, recoveryEnd := 0, prior := none, gate := false }

/-- The machine right after reset: a cold start just completed, at STB 0, with the transmitter beginning to send the START
notice (R206, R207), and the pins as log 14 chooses. -/
def State.reset : State :=
  { pending := []
    stb := 0
    refillDue := false
    freeIndex := 0
    supply :=
      { operating := true, mainInRange := true, rstnHigh := true, vbakLow := false, starting := none
        retentionLost := false, startCause := .cold }
    calendar :=
      { time := { year := 2000, month := 1, day := 1, hour := 0, minute := 0, second := 0 }
        valid := false, phase := 0, stepDue := false }
    schedule := Vector.replicate 96 none
    scores := { slots := Vector.replicate 32 emptySlot, mem := [] }
    cues := { waiting := [], nextId := 1 }
    engine :=
      { state := .idle, current := none, held := none, interlock := false, fail := false, holdStart := 0
        settle := none, breathLimit := 8, ilock := clearLine }
    planner :=
      { state := .idle, stint := none, stall := none, log := [], phrase := 0, shadow := Vector.replicate 64 0 }
    queue := []
    channels := Vector.replicate 64 (restChannel .absent)
    reservoir :=
      { charge := 0, capacity := 1200, refillRate := 2, lateLimit := 40, rail := .normal, low := clearLine
        failing := clearLine, testDraw := none }
    monitor :=
      { windows := Vector.replicate 64 none, inputs := Vector.replicate 64 .clear, test := none, ismin := false
        isovr := false }
    bells := Vector.replicate 64 coldBell
    link :=
      { fifo := [], holdo := false, assembler := .hunting, ended := none, gapDeadline := none, reply := none
        transmitter := .sending { kind := 0xE0, tag := 0, payload := [0] } false 66000, straps := 0, rate := 9600
        inBreak := false, restartPending := false }
    notices := { waiting := [], overflow := false } }

end Sys2Proof.Machine
end

