-- ==== Sys2Proof/Machine/Codes.lean ====
section
/-! DEFINITION. The byte codes of the enumerations (12_frame_and_record_layouts.md, Codes), and the fields of payloads,
most significant byte first (R209). -/

namespace Sys2Proof.Machine

/-- A Bool field: 0 or 1 (R209). -/
def flagByte (b : Bool) : Byte := if b then 1 else 0

/-- One byte holding a number (R209). -/
def byteOf (n : Nat) : Byte := BitVec.ofNat 8 n

/-- A number in `k` bytes, most significant first (R209). -/
def bigEndian : Nat → Nat → List Byte
  | 0, _ => []
  | k + 1, n => byteOf (n / 256 ^ k) :: bigEndian k n

/-- A signed number in four bytes, two's complement (R209). -/
def signed4 (i : Int) : List Byte := bigEndian 4 (BitVec.ofInt 32 i).toNat

/-- The one-byte field at an offset of a payload; an offset beyond the payload reads 0. -/
def u8 (p : List Byte) (i : Nat) : Nat := (p.getD i 0).toNat

/-- The two-byte field at an offset of a payload (R209). -/
def u16 (p : List Byte) (i : Nat) : Nat := u8 p i * 256 + u8 p (i + 1)

def Status.code : Status → Byte
  | .ok => 0x00 | .accepted => 0x01 | .badKind => 0x10 | .badLength => 0x11 | .param => 0x12 | .busy => 0x13
  | .noSpace => 0x14 | .sequence => 0x15 | .badScore => 0x16 | .notFound => 0x17 | .held => 0x18 | .listFull => 0x19
  | .channelState => 0x1A | .noTime => 0x1B

def rejectCode : RejectReason → Byte
  | .check => 1 | .parity => 2 | .framing => 3 | .overrun => 4 | .length => 5 | .timeout => 6

def ChannelState.code : ChannelState → Byte
  | .absent => 0 | .disabled => 1 | .ready => 2 | .firing => 3 | .recovering => 4 | .fault => 5 | .testing => 6

def FaultCause.code : FaultCause → Byte
  | .none => 0 | .noImpact => 1 | .erratic => 2

def EngineState.code : EngineState → Byte
  | .idle => 0 | .starting => 1 | .playing => 2 | .yielding => 3 | .draining => 4 | .held => 5

def SlotState.code : SlotState → Byte
  | .empty => 0 | .loading => 1 | .ready => 2

def EndCause.code : EndCause → Byte
  | .completed => 0 | .aborted => 1 | .preempted => 2 | .suspended => 3 | .expired => 4 | .cancelled => 5
  | .evicted => 6

def TestResult.code : TestResult → Byte
  | .ok => 0 | .noImpact => 1 | .early => 2 | .coilOpen => 3 | .short => 4 | .notFired => 5 | .interrupted => 6

def SkipReason.code : SkipReason → Byte
  | .latched => 0 | .noScore => 1 | .listFull => 2

def RailLevel.code : RailLevel → Byte
  | .normal => 0 | .low => 1 | .fail => 2

def StartCause.code : StartCause → Byte
  | .cold => 0 | .warm => 1 | .restart => 2

def Mode.code : Mode → Byte
  | .firm => 0 | .interruptible => 1 | .abortable => 2

/-- The mode a code names; codes above 2 are refused before this is read (R49, R71). -/
def Mode.ofCode : Nat → Mode
  | 0 => .firm
  | 1 => .interruptible
  | _ => .abortable

/-- The source byte (SCHEDULE 0, DIRECT 1) and the entry index byte, 0 for a DIRECT cue (R209). -/
def Source.bytes : Source → List Byte
  | .schedule i => [0, byteOf i.val]
  | .direct => [1, 0]

/-- The action kind byte (SCORE 0, COUNT 1). -/
def Action.kindByte : Action → Byte
  | .score .. => 0
  | .count .. => 1

/-- The count rule's code and the fixed count (R49). -/
def CountRule.bytes : CountRule → List Byte
  | .hour12 => [0, 0]
  | .quarter => [1, 0]
  | .fixed n => [2, byteOf n]

/-- The hold source byte: bit 0 is INTERLOCK and bit 1 is FAIL. -/
def sourceByte (interlock fail : Bool) : Byte :=
  byteOf ((if interlock then 1 else 0) + (if fail then 2 else 0))

/-- The five counters, two bytes each, in the order of END (12, END). -/
def Counters.bytes (c : Counters) : List Byte :=
  bigEndian 2 c.planned ++ bigEndian 2 c.fired ++ bigEndian 2 c.firedLate ++ bigEndian 2 c.dropped
    ++ bigEndian 2 c.suspensions

/-- A notice's KIND byte. -/
def Notice.kind : Notice → Byte
  | .start .. => 0xE0 | .perfStart .. => 0xE1 | .cueEnd .. => 0xE2 | .fireSkipped .. => 0xE3
  | .channelFault .. => 0xE4 | .strayImpact .. => 0xE5 | .hold .. => 0xE6 | .rail .. => 0xE7 | .timeJump .. => 0xE8
  | .testResult .. => 0xE9

/-- A notice's payload bytes (12, Other payloads; END and TEST_RESULT). -/
def Notice.payload : Notice → List Byte
  | .start cause => [cause.code]
  | .perfStart cueId source action => byteOf cueId :: (source.bytes ++ [action.kindByte])
  | .cueEnd cueId cause counters => byteOf cueId :: cause.code :: counters.bytes
  | .fireSkipped entry reason => [byteOf entry.val, reason.code]
  | .channelFault bell cause => [byteOf bell.val, cause.code]
  | .strayImpact bell => [byteOf bell.val]
  | .hold entering interlock fail => [flagByte entering, sourceByte interlock fail]
  | .rail level => [level.code]
  | .timeJump delta skipped => signed4 delta ++ [flagByte skipped]
  | .testResult bell result observation => byteOf bell.val :: result.code :: bigEndian 2 observation

/-- The frame the transmitter builds for a notice: TAG 0 (R189, R196). -/
def Notice.frame (n : Notice) : Frame :=
  { kind := n.kind, tag := 0, payload := n.payload }

/-- The bytes of a frame on the line (R189). -/
def Frame.bytes (f : Frame) : List Byte := frameBytes f.kind f.tag f.payload

end Sys2Proof.Machine
end

