-- ==== Sys2Proof/Machine/Flags.lean ====
section
/-! DEFINITION. The conditions the manual derives from state: debounced levels, the rail level and its rate, the Hold
output, the hold sources, saturating counts. -/

namespace Sys2Proof.Machine

/-! ## Debouncers (R88, R156) -/

/-- The line takes a level: a level unlike the debounced one starts its 50 ms, a return to it abandons them; a line that
keeps its level changes nothing. A return at the very moment the 50 ms complete: DESIGN CHOICE (log 31), taken first it
abandons them. -/
def Debouncer.lineChange (d : Debouncer) (level : Bool) (now : Stb) : Debouncer :=
  if level = d.line then d
  else { d with line := level, since := if level = d.level then none else some now }

/-- The 50 ms of a pending change are complete. -/
def Debouncer.complete (d : Debouncer) (now : Stb) : Bool :=
  match d.since with
  | none => false
  | some t => decide (t + Config.debounceTime ≤ now)

/-- The debounced level changes to the line's. -/
def Debouncer.settle (d : Debouncer) : Debouncer :=
  { d with level := d.line, since := none }

/-! ## The rail (R153, R157) -/

/-- The rail level that two debounced levels give (R157). -/
def railLevelOf (low failing : Bool) : RailLevel :=
  if failing then .fail else if low then .low else .normal

/-- The effective rate of refill (R153). -/
def effectiveRate (rail : RailLevel) (rate : Nat) : Nat :=
  match rail with
  | .normal => rate
  | .low => if rate / 2 = 0 then 1 else rate / 2
  | .fail => 0

/-! ## The Hold output (R188) -/

/-- HOLDO after the FIFO count has risen to `count`. -/
def holdAfterRise (hold : Bool) (count : Nat) : Bool :=
  hold || decide (Config.holdOn ≤ count)

/-- HOLDO after the FIFO count has fallen to `count`. -/
def holdAfterFall (hold : Bool) (count : Nat) : Bool :=
  hold && decide (Config.holdOff < count)

/-! ## Marks of a received character (R186) -/

/-- The number of ones of a byte, counted over its lowest `k` bits. -/
def onesBelow (b : Byte) : Nat → Nat
  | 0 => 0
  | k + 1 => onesBelow b k + (if b.getLsbD k then 1 else 0)

/-- The receiver's marks on a character: parity when the ones of the data and parity bits are odd in number, framing
when the stop bit is found at space (R186). -/
def receivedByte (data : Byte) (parityBit stopBit : Bool) : RxByte :=
  { data := data
    parity := decide ((onesBelow data 8 + (if parityBit then 1 else 0)) % 2 = 1)
    framing := !stopBit
    overrun := false }

/-- The levels of the line, true for mark, through one sent character: the start bit at space, the data bits least
significant first, the bit of even parity, and the stop bit at mark (R186). -/
def characterBits (b : Byte) : List Bool :=
  false :: ((List.range 8).map b.getLsbD ++ [decide (onesBelow b 8 % 2 = 1), true])

/-- The levels of the line through a whole frame, its characters back to back (R186, R189). -/
def Frame.lineBits (f : Frame) : List Bool := f.bytes.flatMap characterBits

/-- The byte carries some mark (R191). -/
def RxByte.marked (b : RxByte) : Bool := b.parity || b.framing || b.overrun

/-- The reason of a marked byte: overrun, then framing, then parity (R191). -/
def RxByte.reason (b : RxByte) : RejectReason :=
  if b.overrun then .overrun else if b.framing then .framing else .parity

/-! ## Saturating counts -/

/-- A count that rises by 1 and stays at its upper end (R2, R6, R94, R174). -/
def saturatingSucc (top n : Nat) : Nat := min (n + 1) top

/-! ## The link rate (R186, R200) -/

/-- The rate that the straps BSEL1 (bit 1) and BSEL0 (bit 0) select, in baud (00_scope.md, Pins). -/
def rateOfStraps (straps : BitVec 2) : Nat :=
  match straps.toNat with
  | 0 => 9600
  | 1 => 19200
  | 2 => 38400
  | _ => 57600

/-! ## Hold sources (R73, R88) -/

/-- The hold source set is not empty. -/
def Engine.sourcePresent (e : Engine) : Bool := e.interlock || e.fail

end Sys2Proof.Machine
end

