-- ==== Sys2Proof/Machine/Ops.lean ====
section
/-! DEFINITION. The named operations the meanings share: updates of a block, of a bell's part, of the counters, the
Notice Queue and the transmitter, and the pool memory. -/

namespace Sys2Proof.Machine

/-- What a step answers. -/
abbrev Out := Host.Outcome State Fault Refusal

/-! ## Updates of one block -/

/-- The state with the command queue replaced. -/
def State.setPending (s : State) (x : List Instr) : State :=
  { s with pending := x }

/-- The state with the strike time base replaced. -/
def State.setStb (s : State) (x : Stb) : State :=
  { s with stb := x }

/-- The state with the mark of a refill step still to be taken replaced. -/
def State.setRefillDue (s : State) (x : Bool) : State :=
  { s with refillDue := x }

/-- The state with the index of the next free value replaced. -/
def State.setFreeIndex (s : State) (x : Nat) : State :=
  { s with freeIndex := x }

/-- The state with the supplies and the Retention Monitor replaced. -/
def State.setSupply (s : State) (x : Supply) : State :=
  { s with supply := x }

/-- The state with the Calendar Clock replaced. -/
def State.setCalendar (s : State) (x : Calendar) : State :=
  { s with calendar := x }

/-- The state with the Schedule Table replaced. -/
def State.setSchedule (s : State) (x : Vector (Option SchedEntry) 96) : State :=
  { s with schedule := x }

/-- The state with the Score Store replaced. -/
def State.setScores (s : State) (x : ScoreStore) : State :=
  { s with scores := x }

/-- The state with the Cue List replaced. -/
def State.setCues (s : State) (x : CueList) : State :=
  { s with cues := x }

/-- The state with the Performance Engine replaced. -/
def State.setEngine (s : State) (x : Engine) : State :=
  { s with engine := x }

/-- The state with the Strike Planner replaced. -/
def State.setPlanner (s : State) (x : Planner) : State :=
  { s with planner := x }

/-- The state with the Strike Queue replaced. -/
def State.setQueue (s : State) (x : List StrikeEntry) : State :=
  { s with queue := x }

/-- The state with the channel records replaced. -/
def State.setChannels (s : State) (x : Vector Channel 64) : State :=
  { s with channels := x }

/-- The state with Striking Power replaced. -/
def State.setReservoir (s : State) (x : Reservoir) : State :=
  { s with reservoir := x }

/-- The state with the Flight Monitor replaced. -/
def State.setMonitor (s : State) (x : Monitor) : State :=
  { s with monitor := x }

/-- The state with the Bell Table replaced. -/
def State.setBells (s : State) (x : Vector BellRecord 64) : State :=
  { s with bells := x }

/-- The state with the Link Port replaced. -/
def State.setLink (s : State) (x : Link) : State :=
  { s with link := x }

/-- The state with the Notice Queue replaced. -/
def State.setNotices (s : State) (x : NoticeQueue) : State :=
  { s with notices := x }

/-! ## Updates of one bell, slot or entry -/

/-- The state with a bell's channel record replaced. -/
def State.setChannel (s : State) (b : Bell) (c : Channel) : State :=
  s.setChannels (s.channels.set b c)

/-- The state with a bell's record replaced. -/
def State.setBell (s : State) (b : Bell) (r : BellRecord) : State :=
  s.setBells (s.bells.set b r)

/-- The state with a bell's impact window replaced. -/
def State.setWindow (s : State) (b : Bell) (w : Option Window) : State :=
  s.setMonitor { s.monitor with windows := s.monitor.windows.set b w }

/-- The state with a bell's impact input replaced. -/
def State.setInput (s : State) (b : Bell) (i : ImpactInput) : State :=
  s.setMonitor { s.monitor with inputs := s.monitor.inputs.set b i }

/-- The state with the channel test replaced. -/
def State.setTest (s : State) (t : Option ChannelTest) : State :=
  s.setMonitor { s.monitor with test := t }

/-- The state with a bell's shadow replaced (R119). -/
def State.setShadow (s : State) (b : Bell) (t : Stb) : State :=
  s.setPlanner { s.planner with shadow := s.planner.shadow.set b t }

/-- The state with a score slot replaced. -/
def State.setSlot (s : State) (i : SlotNo) (x : Slot) : State :=
  s.setScores { s.scores with slots := s.scores.slots.set i x }

/-- The state with a schedule entry replaced. -/
def State.setEntry (s : State) (i : EntryNo) (e : Option SchedEntry) : State :=
  s.setSchedule (s.schedule.set i e)

/-- The state with the engine's state replaced. -/
def State.setEngineState (s : State) (e : EngineState) : State :=
  s.setEngine { s.engine with state := e }

/-- The state with the current performance replaced. -/
def State.setCurrent (s : State) (p : Option Performance) : State :=
  s.setEngine { s.engine with current := p }

/-- The state with the waiting cues replaced. -/
def State.setWaiting (s : State) (l : List Cue) : State :=
  s.setCues { s.cues with waiting := l }

/-! ## Notices (R197) -/

/-- A notice is raised: it joins the queue at the back, or, with 32 queued, it is discarded and the overflow flag set. -/
def State.raise (s : State) (n : Notice) : State :=
  if s.notices.waiting.length < Config.noticeMax then
    s.setNotices { s.notices with waiting := s.notices.waiting ++ [n] }
  else
    s.setNotices { s.notices with overflow := true }

/-- A notice is raised if there is one. -/
def State.raiseOption (s : State) : Option Notice → State
  | none => s
  | some n => s.raise n

/-! ## The transmitter (R196) -/

/-- Thousandths of a bit time that a frame takes on the line: 11 bits a byte (R186). -/
def frameTime (f : Frame) : Nat := (f.payload.length + 5) * 11 * 1000

/-- The transmitter, when IDLE, chooses what to send: the reply if there is one, else the oldest notice (R196). -/
def State.choose (s : State) : State :=
  match s.link.transmitter with
  | .sending .. => s
  | .idle =>
    match s.link.reply, s.notices.waiting with
    | some f, _ => s.setLink { s.link with transmitter := .sending f true (frameTime f) }
    | none, [] => s
    | none, n :: rest =>
      (s.setLink { s.link with transmitter := .sending n.frame false (frameTime n.frame) }).setNotices
        { s.notices with waiting := rest }

/-- The level of TXD, true for mark: the bit being sent, by the time already sent, and mark with nothing left (R186, R196,
R203). -/
def Transmitter.txd : Transmitter → Bool
  | .idle => true
  | .sending f _ left => (f.lineBits[(frameTime f - left) / 1000]?).getD true

/-- A command of the operating part: its effect, and then the transmitter's choice (R196; log 28). While operation is
stopped the part does not act (R203), and the command changes nothing (log 3). -/
def whenOperating (s : State) (effect : State → State) : Out :=
  .next (if s.supply.operating then (effect s).choose else s)

/-- A command that reaches the part whether or not it operates: its effect, and then, in operation, the transmitter's
choice (R196; log 28). -/
def atAnyTime (s : State) (effect : State → State) : Out :=
  .next (if s.supply.operating then (effect s).choose else effect s)

/-! ## Counters (R94) -/

/-- A counter of the current performance rises, if that performance's cue is the one named. -/
def State.report (s : State) (cueId : Nat) (f : Counters → Counters) : State :=
  match s.engine.current with
  | none => s
  | some p =>
    if p.cue.id = cueId then s.setCurrent (some { p with cue := { p.cue with counters := f p.cue.counters } }) else s

/-- A counter's upper end (R64). -/
def counterTop : Nat := 65535

def Counters.addPlanned (c : Counters) : Counters := { c with planned := saturatingSucc counterTop c.planned }
def Counters.addFired (c : Counters) : Counters := { c with fired := saturatingSucc counterTop c.fired }
def Counters.addFiredLate (c : Counters) : Counters := { c with firedLate := saturatingSucc counterTop c.firedLate }
def Counters.addDropped (c : Counters) : Counters := { c with dropped := saturatingSucc counterTop c.dropped }
def Counters.addSuspension (c : Counters) : Counters :=
  { c with suspensions := saturatingSucc counterTop c.suspensions }

/-! ## The pool memory (R21): bytes at addresses, in one canonical form -/

/-- The byte at an address; an unlisted address reads 0. DESIGN CHOICE (log 18, unsafe): the manual gives an unwritten
byte no value and never serves one. -/
def Memory.readByte : List Host.Cell → Nat → Byte
  | [], _ => 0
  | (k, v) :: rest, a => if k = a then v else readByte rest a

/-- The byte at an address replaced. The form stays canonical: addresses rise strictly, and no listed byte is 0. -/
def Memory.writeByte : List Host.Cell → Nat → Byte → List Host.Cell
  | [], a, v => if v = 0 then [] else [(a, v)]
  | (k, w) :: rest, a, v =>
    if a < k then (if v = 0 then (k, w) :: rest else (a, v) :: (k, w) :: rest)
    else if a = k then (if v = 0 then rest else (a, v) :: rest)
    else (k, w) :: writeByte rest a v

/-- Every address is above a bound, addresses rise strictly, and no listed byte is 0. -/
def Memory.wfAbove : Option Nat → List Host.Cell → Bool
  | _, [] => true
  | low, (k, v) :: rest =>
    (match low with
      | none => true
      | some l => decide (l < k)) && decide (v ≠ 0) && wfAbove (some k) rest

/-- The canonical form of the pool's bytes. -/
def Memory.wf (m : List Host.Cell) : Bool := Memory.wfAbove none m

/-- Bytes written at rising addresses. -/
def Memory.writeBytes (m : List Host.Cell) (a : Nat) : List Byte → List Host.Cell
  | [] => m
  | v :: rest => writeBytes (Memory.writeByte m a v) (a + 1) rest

/-! ## Free values (log 7) -/

/-- A free value no greater than a bound, and the state that has spent it. -/
def State.freeValue (s : State) (bound : Nat) : Nat × State :=
  (Config.freeObservation s.freeIndex % (bound + 1), s.setFreeIndex (s.freeIndex + 1))

end Sys2Proof.Machine
end

