-- ==== Sys2Proof/Machine/Calendar.lean ====
section
/-! DEFINITION. Civil time: month lengths, day numbers, weekdays, the second step, and what is derived from a second
(03_calendar_clock.md). -/

namespace Sys2Proof.Machine

/-- A year of the calendar is a leap year when 4 divides it (R34). -/
def leapYear (year : Nat) : Bool := decide (year % 4 = 0)

/-- The length of a month (R34). -/
def monthLength (year month : Nat) : Nat :=
  match month with
  | 2 => if leapYear year then 29 else 28
  | 4 | 6 | 9 | 11 => 30
  | _ => 31

/-- The days of a year in the months before one (R35). -/
def daysBeforeMonth (year : Nat) : Nat → Nat
  | 0 => 0
  | 1 => 0
  | m + 1 => daysBeforeMonth year m + monthLength year m

/-- The day number of a date: days since 2000-01-01 (R35). -/
def dayNumber (t : CalTime) : Nat :=
  365 * (t.year - 2000) + (t.year - 2000 + 3) / 4 + daysBeforeMonth t.year t.month + (t.day - 1)

/-- The weekday, 1 Monday to 7 Sunday (R35). -/
def weekday (t : CalTime) : Nat := (dayNumber t + 5) % 7 + 1

/-- The second of the day (R41). -/
def secondOfDay (t : CalTime) : Nat := 3600 * t.hour + 60 * t.minute + t.second

/-- The difference of two calendar seconds, the new less the old, in seconds (R41). -/
def secondsBetween (old new : CalTime) : Int :=
  86400 * ((dayNumber new : Int) - dayNumber old) + ((secondOfDay new : Int) - secondOfDay old)

/-- The date falls on the last day of its month (R34). -/
def lastDayOfMonth (t : CalTime) : Bool := decide (t.day = monthLength t.year t.month)

/-- The fields form a real date and time of the calendar's range (R33, R39). -/
def CalTime.real (t : CalTime) : Bool :=
  decide (2000 ≤ t.year ∧ t.year ≤ 2099 ∧ 1 ≤ t.month ∧ t.month ≤ 12 ∧ 1 ≤ t.day ∧ t.day ≤ monthLength t.year t.month
    ∧ t.hour ≤ 23 ∧ t.minute ≤ 59 ∧ t.second ≤ 59)

/-- The last second of the calendar's range (R36). -/
def lastSecond : CalTime := { year := 2099, month := 12, day := 31, hour := 23, minute := 59, second := 59 }

/-- The first second of the calendar's range (R36, R46). -/
def firstSecond : CalTime := { year := 2000, month := 1, day := 1, hour := 0, minute := 0, second := 0 }

/-- The next day at 00:00:00, within a month, across a month's end, or across a year's end (R36). -/
def nextDay (t : CalTime) : CalTime :=
  if t.day < monthLength t.year t.month then { t with day := t.day + 1, hour := 0, minute := 0, second := 0 }
  else if t.month < 12 then { t with month := t.month + 1, day := 1, hour := 0, minute := 0, second := 0 }
  else if t.year < 2099 then { t with year := t.year + 1, month := 1, day := 1, hour := 0, minute := 0, second := 0 }
  else firstSecond

/-- The next calendar second (R36). -/
def nextSecond (t : CalTime) : CalTime :=
  if t.second < 59 then { t with second := t.second + 1 }
  else if t.minute < 59 then { t with minute := t.minute + 1, second := 0 }
  else if t.hour < 23 then { t with hour := t.hour + 1, minute := 0, second := 0 }
  else nextDay t

/-- The second step: the phase restarts, the second advances, and the step past the end of 2099 clears the valid flag
(R36). -/
def Calendar.step (c : Calendar) : Calendar :=
  { time := nextSecond c.time, valid := c.valid && decide (c.time ≠ lastSecond), phase := 0, stepDue := false }

/-- A millisecond of the calendar oscillator: the phase rises, or the second step falls due (R36). -/
def Calendar.millisecond (c : Calendar) : Calendar :=
  if c.phase + 1 < Config.phaseEnd then { c with phase := c.phase + 1 } else { c with stepDue := true }

/-- The calendar set to a time (R40, R41): the phase restarts, and a second step that was due does not happen (R43). -/
def Calendar.setTo (_c : Calendar) (t : CalTime) : Calendar :=
  { time := t, valid := true, phase := 0, stepDue := false }

/-- The civil minute of a second: what a last-fire stamp names (R47, R51). -/
def stampOf (t : CalTime) : Stamp :=
  { year := t.year, month := t.month, day := t.day, hour := t.hour, minute := t.minute }

/-- The stroke count of a count rule at a time (R45). -/
def strokeCount (rule : CountRule) (t : CalTime) : Nat :=
  match rule with
  | .hour12 => if t.hour % 12 = 0 then 12 else t.hour % 12
  | .quarter => if t.minute / 15 = 0 then 4 else t.minute / 15
  | .fixed n => n

/-- A pattern matches a second: every condition of R50 but the entry's being enabled. -/
def Pattern.matches (p : Pattern) (t : CalTime) : Bool :=
  decide (t.second = p.second)
    && (match p.minute with
        | none => true
        | some m => decide (t.minute = m))
    && (match p.hour with
        | none => true
        | some h => decide (t.hour = h))
    && p.weekdays.getLsbD (weekday t - 1)
    && (match p.day with
        | .any => true
        | .last => lastDayOfMonth t
        | .on d => decide (t.day = d))
    && p.months.getLsbD (t.month - 1)

/-- The delta as a TIME_JUMP notice carries it, clamped (R42). -/
def clampDelta (delta : Int) : Int :=
  if delta < -2147483648 then -2147483648 else if 2147483647 < delta then 2147483647 else delta

end Sys2Proof.Machine
end

