-- ==== Sys2Proof/Machine/Operands.lean ====
section
/-! DEFINITION. The operands of requests: payload lengths, fields at their offsets, the checks of the fields in field
order, and the encodings of stored fields in replies (12_frame_and_record_layouts.md). -/

namespace Sys2Proof.Machine

/-- A handled request: the state it leaves, and the reply's status and fields (R195, R209). -/
structure Answer where
  state : State
  status : Status
  fields : List Byte

/-- The reply's payload: the status, then the fields (R195). -/
def Answer.payload (a : Answer) : List Byte := a.status.code :: a.fields

/-- A refusal that changes nothing and carries no field (R195, R210). -/
def State.refuse (s : State) (status : Status) : Answer := { state := s, status := status, fields := [] }

/-- A PARAM refusal with the first bad field's number (R210). -/
def State.refuseParam (s : State) (field : Nat) : Answer := { state := s, status := .param, fields := [byteOf field] }

/-- The number of the first field out of range, the checks standing in field order from field 0. -/
def firstBad (checks : List Bool) : Option Nat := checks.findIdx? fun ok => !ok

/-- The payload length is right for the kind (R195; 12, Other payloads). -/
def lengthRight (k : ReqKind) (n : Nat) : Bool :=
  match k with
  | .status | .restart | .timeGet | .settingsRead => n == 0
  | .timeSet => n == 7
  | .scoreBegin => n == 8
  | .scoreData => decide (3 ≤ n ∧ (n - 3) % 4 = 0 ∧ 1 ≤ (n - 3) / 4 ∧ (n - 3) / 4 ≤ 24)
  | .scoreEnd | .scoreErase | .scoreInfo | .schedRead | .schedClear | .stop | .cueRead => n == 1
  | .schedWrite => n == 21
  | .schedEnable => n == 2
  | .play => n == 12
  | .settingsWrite => n == 5
  | .bellWrite => n == 13
  | .bellRead | .strike => n == 2
  | .bellEnable | .bellDisable | .bellClearFault | .testChannel => n == 1

/-- A number lies in a range, both ends included. -/
def within (lo hi n : Nat) : Bool := decide (lo ≤ n ∧ n ≤ hi)

/-! ## Time (R39) -/

/-- TIME_SET's fields. -/
def timeFields (p : List Byte) : CalTime :=
  { year := u16 p 0, month := u8 p 2, day := u8 p 3, hour := u8 p 4, minute := u8 p 5, second := u8 p 6 }

/-- TIME_SET's checks, in field order (R39): the day against the given month of the given year. -/
def timeChecks (t : CalTime) : List Bool :=
  [within 2000 2099 t.year, within 1 12 t.month, within 1 (monthLength t.year t.month) t.day, within 0 23 t.hour,
   within 0 59 t.minute, within 0 59 t.second]

/-- The six fields of a time as a reply carries them (R44). -/
def timeBytes (t : CalTime) : List Byte :=
  bigEndian 2 t.year ++ [byteOf t.month, byteOf t.day, byteOf t.hour, byteOf t.minute, byteOf t.second]

/-! ## Actions (R49, R71): nine fields, twelve bytes, alike in PLAY and SCHED_WRITE -/

/-- The nine action fields, numbered from the action kind. -/
structure ActionFields where
  kind : Nat
  priority : Nat
  mode : Nat
  maxWait : Nat
  target : Nat
  second : Nat
  third : Nat
  rule : Nat
  fixed : Nat
deriving DecidableEq, Repr

/-- The action fields from an offset of a payload on. -/
def actionFields (p : List Byte) (o : Nat) : ActionFields :=
  { kind := u8 p o, priority := u8 p (o + 1), mode := u8 p (o + 2), maxWait := u16 p (o + 3), target := u8 p (o + 5)
    second := u16 p (o + 6), third := u16 p (o + 8), rule := u8 p (o + 10), fixed := u8 p (o + 11) }

/-- The action fields' checks, in field order; the column is the action kind's (R57, R71). -/
def actionChecks (f : ActionFields) : List Bool :=
  [within 0 1 f.kind, within 0 7 f.priority, within 0 2 f.mode, within 0 3600 f.maxWait]
    ++ (if f.kind = 0 then
          [within 0 31 f.target, f.second == 0 || within 200 2000 f.second, f.third == 0 || within 1 16 f.third,
           f.rule == 0, f.fixed == 0]
        else
          [within 0 63 f.target, within 1 8 f.second, within 500 6000 f.third, within 0 2 f.rule,
           if f.rule = 2 then within 1 24 f.fixed else f.fixed == 0])

/-- The count rule that its code and the fixed count give (R49). -/
def countRuleOf (rule fixed : Nat) : CountRule :=
  match rule with
  | 0 => .hour12
  | 1 => .quarter
  | _ => .fixed fixed

/-- The action that checked fields name. -/
def ActionFields.action (f : ActionFields) : ActionSpec :=
  if f.kind = 0 then .score (Fin.ofNat 32 f.target) f.second f.third
  else .count (Fin.ofNat 64 f.target) f.second f.third (countRuleOf f.rule f.fixed)

/-- A stored action's fields from the slot or bell on, as written (R59). -/
def ActionSpec.bytes : ActionSpec → List Byte
  | .score slot beat repeats => byteOf slot.val :: (bigEndian 2 beat ++ bigEndian 2 repeats ++ [0, 0])
  | .count bell velocity interval rule =>
    byteOf bell.val :: (bigEndian 2 velocity ++ bigEndian 2 interval ++ rule.bytes)

/-- A stored action's kind byte. -/
def ActionSpec.kindByte : ActionSpec → Byte
  | .score .. => 0
  | .count .. => 1

/-- A cue's action fields in CUE_READ: slot or bell, the two overrides or velocity and interval, and the stroke count
(12, Cue record). -/
def Action.bytes : Action → List Byte
  | .score slot beat repeats => byteOf slot.val :: (bigEndian 2 beat ++ bigEndian 2 repeats ++ [0])
  | .count bell velocity interval strokes =>
    byteOf bell.val :: (bigEndian 2 velocity ++ bigEndian 2 interval ++ [byteOf strokes])

/-! ## Patterns (R48) -/

/-- SCHED_WRITE's checks, in field order 0 to 16 (R57): ANY is 0xFF and LAST 0xFE; a set has a member, and no bit beyond
its days or months (R209). -/
def schedChecks (p : List Byte) : List Bool :=
  [within 0 95 (u8 p 0), within 0 1 (u8 p 1), within 0 59 (u8 p 2), within 0 59 (u8 p 3) || u8 p 3 == 255,
   within 0 23 (u8 p 4) || u8 p 4 == 255, within 1 127 (u8 p 5), within 1 31 (u8 p 6) || within 254 255 (u8 p 6),
   within 1 4095 (u16 p 7)]
    ++ actionChecks (actionFields p 9)

/-- A minute or hour field: 0xFF is ANY. -/
def orAny (n : Nat) : Option Nat := if n = 255 then none else some n

/-- A day field: 0xFF is ANY and 0xFE is LAST. -/
def dayOf (n : Nat) : DayPattern := if n = 255 then .any else if n = 254 then .last else .on n

/-- SCHED_WRITE's pattern. -/
def patternOf (p : List Byte) : Pattern :=
  { second := u8 p 2, minute := orAny (u8 p 3), hour := orAny (u8 p 4), weekdays := BitVec.ofNat 8 (u8 p 5)
    day := dayOf (u8 p 6), months := BitVec.ofNat 16 (u16 p 7) }

/-- A stored minute or hour as written. -/
def anyByte : Option Nat → Byte
  | none => 0xFF
  | some n => byteOf n

/-- A stored day as written. -/
def DayPattern.byte : DayPattern → Byte
  | .any => 0xFF
  | .last => 0xFE
  | .on d => byteOf d

/-- A stored pattern's fields 2 to 7 as written (R59). -/
def Pattern.bytes (p : Pattern) : List Byte :=
  [byteOf p.second, anyByte p.minute, anyByte p.hour, p.weekdays, p.day.byte] ++ bigEndian 2 p.months.toNat

/-- A stamp in a reply: present and its fields, or absent and zeros (R59, R209). -/
def stampBytes : Option Stamp → List Byte
  | none => [0, 0, 0, 0, 0, 0, 0]
  | some t => 1 :: (bigEndian 2 t.year ++ [byteOf t.month, byteOf t.day, byteOf t.hour, byteOf t.minute])

/-! ## Scores (R14, R22) -/

/-- SCORE_BEGIN's header. -/
def headerFields (p : List Byte) : Header :=
  { recordCount := u16 p 1, defaultBeat := u16 p 3, repeats := u8 p 5, repeatGap := u16 p 6 }

/-- SCORE_BEGIN's checks, in field order (R22). -/
def headerChecks (p : List Byte) : List Bool :=
  let h := headerFields p
  [within 0 31 (u8 p 0), within 1 4096 h.recordCount, within 200 2000 h.defaultBeat, within 1 16 h.repeats,
   within 0 4095 h.repeatGap]

/-! ## Bells (R1, R8, R9) -/

/-- BELL_WRITE's configuration. -/
def configFields (p : List Byte) : BellConfig :=
  { present := u8 p 1 == 1, driveWidth := u8 p 2, recovery := u16 p 3, coilClass := u8 p 5, floor := u16 p 6
    ceiling := u16 p 8, seed := u16 p 10, learning := u8 p 12 == 1 }

/-- BELL_WRITE's range checks, in field order (R1, R8). -/
def configChecks (p : List Byte) : List Bool :=
  let c := configFields p
  [within 0 63 (u8 p 0), within 0 1 (u8 p 1), within 4 80 c.driveWidth, within 10 4000 c.recovery,
   within 1 4 c.coilClass, within 1 500 c.floor, within 1 500 c.ceiling, within 1 500 c.seed, within 0 1 (u8 p 12)]

/-- The field that the first failed constraint between fields names, in the order of R9. -/
def constraintBad (c : BellConfig) : Option Nat :=
  if ¬ c.floor < c.ceiling then some 6
  else if ¬ (c.floor ≤ c.seed ∧ c.seed ≤ c.ceiling) then some 7
  else if ¬ c.driveWidth < c.recovery then some 2
  else if ¬ c.driveWidth ≤ c.ceiling then some 2
  else none

/-- A stored configuration's thirteen bytes as written (12, Bell record). -/
def BellConfig.bytes (c : BellConfig) (b : Bell) : List Byte :=
  [byteOf b.val, flagByte c.present, byteOf c.driveWidth] ++ bigEndian 2 c.recovery ++ [byteOf c.coilClass]
    ++ bigEndian 2 c.floor ++ bigEndian 2 c.ceiling ++ bigEndian 2 c.seed ++ [flagByte c.learning]

/-- A record's service part, with the channel's state, as BELL_READ carries it (R12). -/
def BellRecord.serviceBytes (r : BellRecord) (state : ChannelState) : List Byte :=
  [flagByte r.enabled, r.faultCause.code, state.code] ++ bigEndian 2 r.flight ++ bigEndian 4 r.fired
    ++ [byteOf r.strays, byteOf r.misses, byteOf r.outliers]

/-! ## Settings (R98) -/

/-- SETTINGS_WRITE's checks, in field order (R98). -/
def settingsChecks (p : List Byte) : List Bool :=
  [within 1 30 (u8 p 0), within 0 250 (u8 p 1), within 400 4000 (u16 p 2), within 1 8 (u8 p 4)]

/-- The four settings as a reply carries them (R98, R161). -/
def State.settingsBytes (s : State) : List Byte :=
  [byteOf s.engine.breathLimit, byteOf s.reservoir.lateLimit] ++ bigEndian 2 s.reservoir.capacity
    ++ [byteOf s.reservoir.refillRate]

end Sys2Proof.Machine
end

