-- ==== Sys2Proof/Machine/Store.lean ====
section
/-! DEFINITION. The Score Store: records, chains, the free set, loading and serving (02_scores_and_the_score_store.md). -/

namespace Sys2Proof.Machine

/-- A note record's four bytes as received (R15, 12). -/
structure NoteRecord where
  b0 : Byte
  b1 : Byte
  b2 : Byte
  b3 : Byte
deriving DecidableEq, Repr

/-- The kind code: bits 7 and 6 of byte 0 (R15, 12). -/
def NoteRecord.kind (r : NoteRecord) : Nat := r.b0.toNat / 64

/-- The delta: the low four bits of byte 0 and byte 1 (R15, 12). -/
def NoteRecord.delta (r : NoteRecord) : Nat := r.b0.toNat % 16 * 256 + r.b1.toNat

/-- A TEMPO record's beat (R17, 12). -/
def NoteRecord.beat (r : NoteRecord) : Nat := r.b2.toNat * 256 + r.b3.toNat

/-- A record is valid (R19). -/
def NoteRecord.valid (r : NoteRecord) : Bool :=
  match r.kind with
  | 0 => decide (r.b2.toNat ≤ 63 ∧ 1 ≤ r.b3.toNat ∧ r.b3.toNat ≤ 8)
  | 1 => decide (200 ≤ r.beat ∧ r.beat ≤ 2000)
  | 2 => decide (r.b2 = 0 ∧ r.b3 = 0)
  | _ => false

/-- The blocks a score of `count` records needs: `count` divided by 16, rounded up (R21). -/
def blocksNeeded (count : Nat) : Nat := (count + 15) / Config.blockRecords

/-- The pool address of a block's record position (R21): four bytes a record. -/
def recordAddress (block position : Nat) : Nat := (block * Config.blockRecords + position) * 4

/-- The pool address of record `i` of a chain: position i mod 16 of the block at place i / 16 (R21). -/
def chainAddress (chain : List Nat) (i : Nat) : Nat :=
  recordAddress (chain.getD (i / Config.blockRecords) 0) (i % Config.blockRecords)

/-- Record `i` of a chain, as it stands in the pool (R21, R30). -/
def recordAt (mem : List Host.Cell) (chain : List Nat) (i : Nat) : NoteRecord :=
  let a := chainAddress chain i
  { b0 := Memory.readByte mem a, b1 := Memory.readByte mem (a + 1), b2 := Memory.readByte mem (a + 2)
    b3 := Memory.readByte mem (a + 3) }

/-- Records written to the indices from `i` on, each at its place in the chain, four bytes each and unchanged (R24). -/
def writeRecords (mem : List Host.Cell) (chain : List Nat) (i : Nat) : List Byte → List Host.Cell
  | b0 :: b1 :: b2 :: b3 :: rest =>
    writeRecords (Memory.writeBytes mem (chainAddress chain i) [b0, b1, b2, b3]) chain (i + 1) rest
  | _ => mem

/-- The blocks in some slot's chain (R21). -/
def usedBlocks (slots : List Slot) : List Nat := slots.flatMap Slot.chain

/-- The free blocks, ascending (R21). -/
def freeBlocks (slots : List Slot) : List Nat :=
  (List.range Config.blockCount).filter fun b => !(usedBlocks slots).contains b

/-- The number of free blocks in the pool. -/
def State.freeCount (s : State) : Nat := (freeBlocks s.scores.slots.toList).length

/-- A slot's record count, 0 without a header. -/
def Slot.recordCount (x : Slot) : Nat :=
  match x.header with
  | none => 0
  | some h => h.recordCount

/-- The index of a chain's first invalid record, looking at `n` records from index `i` (R19, R25). -/
def firstInvalid (mem : List Host.Cell) (chain : List Nat) (i : Nat) : Nat → Option Nat
  | 0 => none
  | n + 1 => if (recordAt mem chain i).valid then firstInvalid mem chain (i + 1) n else some i

/-- The slot emptied: header discarded, chain returned, next expected offset and reference count 0 (R20, R25, R26). -/
def State.emptySlotAt (s : State) (i : SlotNo) : State := s.setSlot i emptySlot

/-- The chain a slot would be given: the lowest-numbered free blocks once its own are returned, ascending (R21, R23). -/
def State.chainFor (s : State) (i : SlotNo) (count : Nat) : List Nat :=
  (freeBlocks (s.scores.slots.set i emptySlot).toList).take (blocksNeeded count)

/-- The blocks available to a slot: the free ones and its own (R22). -/
def State.blocksAvailable (s : State) (i : SlotNo) : Nat := s.freeCount + s.scores.slots[i].chain.length

/-- A slot's reference count rises by 1 (R28). -/
def State.addReference (s : State) (i : SlotNo) : State :=
  s.setSlot i { s.scores.slots[i] with refCount := s.scores.slots[i].refCount + 1 }

/-- A slot's reference count falls by 1 (R28). -/
def State.dropReference (s : State) (i : SlotNo) : State :=
  s.setSlot i { s.scores.slots[i] with refCount := s.scores.slots[i].refCount - 1 }

end Sys2Proof.Machine
end

