-- ==== Sys2Proof/Machine/Queue.lean ====
section
/-! DEFINITION. The Strike Queue: order, placement, removal with its counts, and the bell shadows that follow
(06 R115 to R120, 07 R126 to R128, R139). -/

namespace Sys2Proof.Machine

/-! ## Lead, width and cost -/

/-- The velocity factor f(v) (R115). A velocity outside 1 to 8 is never held (R16, R148); it reads as 8. -/
def velocityFactor (v : Nat) : Nat :=
  match v with
  | 1 => 110
  | 2 => 99
  | 3 => 90
  | 4 => 83
  | 5 => 77
  | 6 => 72
  | 7 => 68
  | _ => 64

/-- The lead of a note, in ms, from the learned flight in ticks16 (R115). -/
def lead (flight velocity : Nat) : Nat := (flight * velocityFactor velocity + 512) / 1024

/-- The width of a note's pulse, in ms (R116). -/
def pulseWidth (driveWidth velocity : Nat) : Nat := (driveWidth * (8 + velocity) + 8) / 16

/-- The cost of a note's pulse, in charge units (R116). -/
def pulseCost (c : BellConfig) (velocity : Nat) : Nat := pulseWidth c.driveWidth velocity * c.coilClass

/-! ## Order and placement (R127, R128) -/

/-- One entry stands ahead of another: smaller earliest fire time, then smaller bell (R127). -/
def StrikeEntry.ahead (a b : StrikeEntry) : Bool :=
  decide (a.earliest < b.earliest ∨ (a.earliest = b.earliest ∧ a.bell < b.bell))

/-- An entry put in its place (R128). -/
def insertEntry (e : StrikeEntry) : List StrikeEntry → List StrikeEntry
  | [] => [e]
  | x :: rest => if x.ahead e then x :: insertEntry e rest else e :: x :: rest

/-- An entry is placed, and its bell's shadow advances to its earliest fire time plus its width plus the recovery time
(R118, R119, R128). -/
def State.place (s : State) (e : StrikeEntry) : State :=
  (s.setQueue (insertEntry e s.queue)).setShadow e.bell
    (e.earliest + e.width + s.bells[e.bell].config.recovery)

/-! ## Removal (R120, R139, R140) -/

/-- The entry is one of a cue's (R126). -/
def StrikeEntry.ofCue (e : StrikeEntry) (cueId : Nat) : Bool :=
  match e.origin with
  | .performance id _ => decide (id = cueId)
  | .direct => false

/-- The entry is one of a cue's, of this phrase or a later one (R82). -/
def StrikeEntry.ofCueFrom (e : StrikeEntry) (cueId phrase : Nat) : Bool :=
  match e.origin with
  | .performance id n => decide (id = cueId) && decide (phrase ≤ n)
  | .direct => false

/-- The departure of an entry is reported as a drop, if it is a performance's (R94, R140). -/
def State.reportDrop (s : State) (e : StrikeEntry) : State :=
  match e.origin with
  | .performance id _ => s.report id Counters.addDropped
  | .direct => s

/-- The entries that a removal takes out leave the queue, uncounted; the others close up in their order (R139). -/
def State.removeEntries (s : State) (out : StrikeEntry → Bool) : State :=
  s.setQueue (s.queue.filter fun e => !out e)

/-- The entries that a removal takes out leave the queue, each dropped and counted for its cue (R139). -/
def State.dropEntries (s : State) (out : StrikeEntry → Bool) : State :=
  ((s.queue.filter out).foldl State.reportDrop s).removeEntries out

/-- The bells that a removal takes entries from. -/
def State.bellsLosing (s : State) (out : StrikeEntry → Bool) : List Bell :=
  (s.queue.filter out).map StrikeEntry.bell

/-- A bell's shadow set anew after a removal (R120): behind its last remaining entry; else at the recovery end of a
firing or recovering channel; else at the STB. -/
def State.shadowAfterRemoval (s : State) (b : Bell) : Stb :=
  match (s.queue.filter fun e => decide (e.bell = b)).getLast? with
  | some e => e.earliest + e.width + s.bells[b].config.recovery
  | none =>
    let c := s.channels[b]
    match c.state with
    | .firing => c.pulseEnd.getD s.stb + s.bells[b].config.recovery
    | .recovering => c.recoveryEnd
    | _ => s.stb

/-- The shadows of the bells that lost entries, set anew (R120). -/
def State.resetShadows (s : State) (bells : List Bell) : State :=
  bells.foldl (fun u b => u.setShadow b (u.shadowAfterRemoval b)) s

/-- A removal that leaves the channels as they were, uncounted: entries out, then shadows anew (R80, R82, R85, R120). -/
def State.flush (s : State) (out : StrikeEntry → Bool) : State :=
  (s.removeEntries out).resetShadows (s.bellsLosing out)

/-- A removal that leaves the channels as they were, each entry counted as dropped (R93, R120). -/
def State.flushDropped (s : State) (out : StrikeEntry → Bool) : State :=
  (s.dropEntries out).resetShadows (s.bellsLosing out)

/-- A cue has entries in the Strike Queue. -/
def State.hasEntries (s : State) (cueId : Nat) : Bool := s.queue.any fun e => e.ofCue cueId

end Sys2Proof.Machine
end

