-- ==== Sys2Proof/Machine/Planner.lean ====
section
/-! DEFINITION. The Strike Planner's own work: starting and ending a stint, the breath log, sound times, and the
settling of a note (06_strike_planning.md). What a taken record does to the engine stands in Taking.lean. -/

namespace Sys2Proof.Machine

/-! ## The breath log (R110 to R112) -/

/-- The contexts that a newer one has overtaken leave the log (R112). -/
def retire (now : Stb) : List LogContext → List LogContext
  | [] => []
  | [c] => [c]
  | c :: d :: rest => if d.sound ≤ now then retire now (d :: rest) else c :: d :: rest

/-- Some context of the log is to be retired. -/
def retirable (now : Stb) : List LogContext → Bool
  | _ :: d :: _ => decide (d.sound ≤ now)
  | _ => false

/-- The context of a log entry, as a stint or a cue holds it. -/
def LogContext.context (c : LogContext) : Context := { index := c.index, repeats := c.repeats, beat := c.beat }

/-- The first stroke of a COUNT cue (R64). -/
def firstStroke : Context := { index := 0, repeats := 0, beat := 0 }

/-- The fallback context (R81): the latest logged context at or before the STB, else the oldest. The log is never empty
during a stint (R110); with an empty log the answer is the first stroke. -/
def State.fallback (s : State) : Context :=
  match (s.planner.log.filter fun c => decide (c.sound ≤ s.stb)).getLast?, s.planner.log with
  | some c, _ => c.context
  | none, c :: _ => c.context
  | none, [] => firstStroke

/-! ## Stints (R103, R123) -/

/-- A slot's header, all 0 without one. -/
def Slot.headerOrZero (x : Slot) : Header :=
  match x.header with
  | some h => h
  | none => { recordCount := 0, defaultBeat := 0, repeats := 0, repeatGap := 0 }

/-- The header a stint reads: its slot's, or all 0 for a COUNT action (R103). -/
def State.headerFor (s : State) : Action → Header
  | .score slot _ _ => s.scores.slots[slot].headerOrZero
  | .count .. => { recordCount := 0, defaultBeat := 0, repeats := 0, repeatGap := 0 }

/-- A cue's base beat: its override if that is not 0, else the header's (R64, R103). -/
def baseBeat (a : Action) (h : Header) : Nat :=
  match a with
  | .score _ beat _ => if beat = 0 then h.defaultBeat else beat
  | .count .. => 0

/-- A cue's base repeats: its override if that is not 0, else the header's (R64, R103). -/
def baseRepeats (a : Action) (h : Header) : Nat :=
  match a with
  | .score _ _ repeats => if repeats = 0 then h.repeats else repeats
  | .count .. => 0

/-- The beginning of an action, where a stint starts for want of a saved context (R75). -/
def State.beginning (s : State) (a : Action) : Context :=
  match a with
  | .score .. => { index := 0, repeats := baseRepeats a (s.headerFor a), beat := baseBeat a (s.headerFor a) }
  | .count .. => firstStroke

/-- The planner begins a stint (R103). -/
def State.plannerStart (s : State) (cueId : Nat) (action : Action) (context : Context) (origin : Stb) : State :=
  let h := s.headerFor action
  s.setPlanner
    { state := .planning
      stint := some
        { cueId := cueId, action := action, origin := origin, header := h, baseBeat := baseBeat action h
          baseRepeats := baseRepeats action h
          cursor :=
            { index := context.index, repeats := context.repeats, beat := context.beat, remainder := 0
              point := origin } }
      stall := none
      log :=
        [{ phrase := 0, index := context.index, repeats := context.repeats, beat := context.beat, sound := origin }]
      phrase := 0
      shadow := s.planner.shadow }

/-- The engine stops the planner: it takes nothing further, and a stall is given up (R102, R123). -/
def State.plannerStop (s : State) : State :=
  if s.planner.state = .idle then s else s.setPlanner { s.planner with state := .stopped, stall := none }

/-- A stint ends for the planner: all but the shadows is cleared (R123). -/
def State.plannerEnd (s : State) : State :=
  s.setPlanner
    { state := .idle, stint := none, stall := none, log := [], phrase := 0, shadow := s.planner.shadow }

/-! ## Sound times (R105 to R108, R122) -/

/-- A cursor moved on by a delta converted at a beat (R105): the exact quotient advances the sound point, and the rest is
carried. -/
def Cursor.advance (c : Cursor) (delta beat : Nat) : Cursor :=
  let q := delta * beat + c.remainder
  { c with remainder := q % 48, point := c.point + q / 48 }

/-- What the planner takes next. -/
inductive Item
  /-- A NOTE record or a COUNT stroke. -/
  | note (bell : Bell) (velocity : Nat)
  /-- A TEMPO record. -/
  | tempo (beat : Nat)
  /-- A BREATH record that marks a phrase. -/
  | breath
  /-- A BREATH record that is the last of its pass, and marks nothing. -/
  | lastBreath
  /-- A repeat wrap. -/
  | wrap
deriving DecidableEq, Repr

/-- The bell a record's byte names; a READY score's is at most 63 (R16). -/
def bellOfByte (b : Byte) : Bell := Fin.ofNat 64 b.toNat

/-- What a record asks for (R16 to R18, R111); nothing for kind 3, which no READY score holds (R19). -/
def NoteRecord.item (r : NoteRecord) (lastOfPass : Bool) : Option Item :=
  match r.kind with
  | 0 => some (.note (bellOfByte r.b2) r.b3.toNat)
  | 1 => some (.tempo r.beat)
  | 2 => some (if lastOfPass then .lastBreath else .breath)
  | _ => none

/-- The next record, wrap or stroke with the cursor that taking it leaves, whose sound point is its sound time; none when
the performance has nothing more to plan (R104, R105, R108, R122). A TEMPO's new beat is put in force when it is taken. -/
def State.nextItem (s : State) : Option (Item × Cursor) :=
  match s.planner.stint with
  | none => none
  | some st =>
    let c := st.cursor
    match st.action with
    | .count bell velocity interval strokes =>
      if c.index < strokes then
        some (.note bell velocity, { c with index := c.index + 1, point := st.origin + c.index * interval })
      else none
    | .score slot _ _ =>
      if c.index < st.header.recordCount then
        let r := recordAt s.scores.mem s.scores.slots[slot].chain c.index
        match r.item (decide (c.index + 1 = st.header.recordCount)) with
        | none => none
        | some i => some (i, { c.advance r.delta c.beat with index := c.index + 1 })
      else if 1 < c.repeats then
        some (.wrap,
          { c.advance st.header.repeatGap st.baseBeat with
            index := 0, repeats := c.repeats - 1, beat := st.baseBeat })
      else none

/-- The next item lies within the horizon (R104). -/
def State.itemInHorizon (s : State) : Bool :=
  match s.nextItem with
  | none => false
  | some (_, c) => decide (c.point ≤ s.stb + Config.horizon)

/-- The cursor moved to where taking an item leaves it. -/
def State.setCursor (s : State) (c : Cursor) : State :=
  match s.planner.stint with
  | none => s
  | some st => s.setPlanner { s.planner with stint := some { st with cursor := c } }

/-- The planner stalls; the cursor, the sound point and the remainder stay as they were (R113, R118). -/
def State.plannerStall (s : State) (cause : StallCause) : State :=
  s.setPlanner { s.planner with state := .stalled, stall := some cause }

/-! ## Settling a note (R114 to R118) -/

/-- Why a note was dropped (R114, R117). -/
inductive DropReason
  | channel | tooFast | late
deriving DecidableEq, Repr

/-- What becomes of a note. -/
inductive NoteOutcome
  | dropped (reason : DropReason) | placed (entry : StrikeEntry) | stalled
deriving DecidableEq, Repr

/-- The channel can take a strike at planning time (R114). -/
def ChannelState.inService : ChannelState → Bool
  | .ready | .firing | .recovering => true
  | .absent | .disabled | .fault | .testing => false

/-- The settling of a note on a bell (R114 to R118): its channel, then its push past the target, then the queue's room. -/
def State.noteOutcome (s : State) (bell : Bell) (velocity : Nat) (sound : Stb) (origin : EntryOrigin) : NoteOutcome :=
  if !s.channels[bell].state.inService then .dropped .channel
  else
    let r := s.bells[bell]
    let target := sound - lead r.flight velocity
    let shadow := s.planner.shadow[bell]
    let earliest := max target (max shadow s.stb)
    if s.reservoir.lateLimit < earliest - target then
      .dropped (if target ≤ shadow ∧ s.stb ≤ shadow then .tooFast else .late)
    else if s.queue.length < Config.strikeQueueMax then
      .placed
        { bell := bell, velocity := velocity, width := pulseWidth r.config.driveWidth velocity
          cost := pulseCost r.config velocity, target := target, earliest := earliest, sound := sound
          origin := origin }
    else .stalled

end Sys2Proof.Machine
end

