-- ==== Sys2Proof/Machine/Engine.lean ====
section
/-! DEFINITION. Cues, the Cue List and the Performance Engine: admission, takes, stints, preemption, suspension and the
ends of cues (05_cues_and_the_performance_engine.md). Holds stand in Hold.lean. -/

namespace Sys2Proof.Machine

/-! ## The Cue List (R65, R66) -/

/-- A cue is suspended while it waits with a saved context (R64). -/
def Cue.suspended (c : Cue) : Bool := c.saved.isSome

/-- A cue already in the list stays ahead of one that enters: better priority; within one priority suspended cues first;
then earlier entry time; the later entrant stands behind its equals (R66). -/
def Cue.staysAhead (x c : Cue) : Bool :=
  decide (x.priority < c.priority)
    || (decide (x.priority = c.priority)
      && ((x.suspended && !c.suspended)
        || (decide (x.suspended = c.suspended) && decide (x.entryTime ≤ c.entryTime))))

/-- A cue placed where R66 puts it. -/
def insertCue (c : Cue) : List Cue → List Cue
  | [] => [c]
  | x :: rest => if x.staysAhead c then x :: insertCue c rest else c :: x :: rest

/-- The cue ids in use: of the list, the current and the held performance (R65). -/
def State.idsInUse (s : State) : List Nat :=
  s.cues.waiting.map Cue.id
    ++ (match s.engine.current with
        | none => []
        | some p => [p.cue.id])
    ++ (match s.engine.held with
        | none => []
        | some h => [h.cue.id])

/-- The id that counting upward from the next-id value reaches after `k` steps, wrapping from 255 to 1 (R65). -/
def idAfter (nextId k : Nat) : Nat := (nextId - 1 + k) % 255 + 1

/-- The id the Cue List assigns: the first from the next-id value on that is not in use (R65). At most 18 are in use, so
one is found. -/
def State.newId (s : State) : Nat :=
  match (List.range 255).find? fun k => !s.idsInUse.contains (idAfter s.cues.nextId k) with
  | some k => idAfter s.cues.nextId k
  | none => s.cues.nextId

/-! ## Ends of cues (R70) -/

/-- The latch of the entry a cue came from clears (R56). -/
def State.unlatch (s : State) : Source → State
  | .direct => s
  | .schedule i =>
    match s.schedule[i] with
    | none => s
    | some e => s.setEntry i (some { e with latched := false })

/-- The latch of the entry a cue came from is set (R54). -/
def State.latch (s : State) : Source → State
  | .direct => s
  | .schedule i =>
    match s.schedule[i] with
    | none => s
    | some e => s.setEntry i (some { e with latched := true })

/-- The reference an action holds is given up (R28). -/
def State.releaseAction (s : State) : Action → State
  | .score slot _ _ => s.dropReference slot
  | .count .. => s

/-- The reference an action holds is taken (R28). -/
def State.referAction (s : State) : Action → State
  | .score slot _ _ => s.addReference slot
  | .count .. => s

/-- A cue ends: its END notice is queued, its slot's reference count falls, its entry's latch clears (R70). -/
def State.endCue (s : State) (c : Cue) (cause : EndCause) : State :=
  ((s.raise (.cueEnd c.id cause c.counters)).releaseAction c.action).unlatch c.source

/-! ## Stints and takes (R74, R75) -/

/-- A cue becomes the current performance and a stint starts, from a context or, without one, from the beginning (R75). -/
def State.startStint (s : State) (c : Cue) (from? : Option Context) : State :=
  let context := from?.getD (s.beginning c.action)
  let origin := s.stb + Config.horizon
  let cue := { c with saved := if from?.isSome then from? else c.saved }
  ((s.setEngine
      { s.engine with
        state := .starting
        current := some
          { cue := cue, context := context, fromSaved := from?.isSome, start := s.stb, origin := origin
            yield := none } }).plannerStart
    c.id c.action context origin)

/-- The PERF_START notice of a cue's first take; none for a cue already started (R74, R95). -/
def perfStartNotice (c : Cue) : Option Notice :=
  if c.started then none else some (.perfStart c.id c.source c.action)

/-- The engine takes the head cue, whose stint starts; its PERF_START is left to the caller. With an empty list there is
no current performance and the engine is IDLE. -/
def State.takeHead (s : State) : State × Option Notice :=
  match s.cues.waiting with
  | [] => (((s.setEngineState .idle).setCurrent none).plannerEnd, none)
  | c :: rest => ((s.setWaiting rest).startStint { c with started := true } c.saved, perfStartNotice c)

/-- The engine enters IDLE and, with a cue waiting, takes the head (R74). -/
def State.becomeIdle (s : State) : State :=
  (s.takeHead.1).raiseOption s.takeHead.2

/-- A cue is given back to the list: its entry time becomes the STB, and it is placed by R66 (R68). -/
def State.giveBack (s : State) (c : Cue) : State :=
  s.setWaiting (insertCue { c with entryTime := s.stb } s.cues.waiting)

/-- With no current performance and a cue waiting after all, the IDLE engine takes it (R74). -/
def State.takeIfIdle (s : State) : State :=
  if s.engine.state = .idle then s.becomeIdle else s

/-! ## Preemption (R79 to R86) -/

/-- A performance in STARTING is displaced: its entries leave, the head is taken, the displaced cue is given back, and
END SUSPENDED is queued ahead of a PERF_START (R80). -/
def State.displace (s : State) : State :=
  match s.engine.current with
  | none => s
  | some p =>
    let s := (s.flush fun e => e.ofCue p.cue.id).plannerStop
    let taken := s.takeHead
    ((taken.1.giveBack p.cue).raise (.cueEnd p.cue.id .suspended p.cue.counters)).raiseOption taken.2

/-- The earliest logged context that lies in the future (R82). -/
def State.futureContext (s : State) : Option LogContext :=
  s.planner.log.find? fun c => decide (s.stb < c.sound)

/-- A performance in PLAYING begins to yield: the deadline is set, and a logged context in the future is the yield point,
from whose phrase on the entries leave (R82). DESIGN CHOICE (log 33): with no entry left then, the suspension completes in a
row of its own after this one (R84), and the rest of a schedule walk finds the engine YIELDING. -/
def State.startYield (s : State) : State :=
  match s.engine.current with
  | none => s
  | some p =>
    let deadline := s.stb + 1000 * s.engine.breathLimit
    let point := s.futureContext
    let s := s.setEngine
      { s.engine with
        state := .yielding
        current := some { p with yield := some { start := s.stb, deadline := deadline, point := point } } }
    match point with
    | none => s
    | some c => (s.flush fun e => e.ofCueFrom p.cue.id c.phrase).plannerStop

/-- A suspension completes at a context (R86): the head is taken, then the suspended cue is given back with the context
saved, or ends PREEMPTED, then END is queued ahead of a PERF_START. With an empty list a cue given back is taken again. -/
def State.completeSuspension (s : State) (p : Performance) (at_ : Context) : State :=
  let taken := s.takeHead
  let s := match p.cue.mode with
    | .abortable => taken.1.endCue p.cue .preempted
    | .interruptible | .firm =>
      let cue := { p.cue with saved := some at_, counters := p.cue.counters.addSuspension }
      (taken.1.giveBack cue).raise (.cueEnd cue.id .suspended cue.counters)
  (s.raiseOption taken.2).takeIfIdle

/-- The current performance completes (R78). -/
def State.completePerformance (s : State) (p : Performance) : State :=
  (((s.setCurrent none).plannerEnd).endCue p.cue .completed).becomeIdle

/-- The current performance is aborted by STOP: its entries leave, each counted as dropped; the cue ends ABORTED; the
engine enters IDLE (R93). -/
def State.abortPerformance (s : State) (p : Performance) : State :=
  let s := (s.flushDropped fun e => e.ofCue p.cue.id).plannerStop
  let cue := match s.engine.current with
    | some q => q.cue
    | none => p.cue
  (((s.setCurrent none).plannerEnd).endCue cue .aborted).becomeIdle

/-! ## Admission (R67) -/

/-- The Performance Engine is told of an arrival: an IDLE engine takes the head; a better cue displaces a performance in
STARTING or makes one in PLAYING yield, unless it is FIRM (R67, R74, R79). -/
def State.arrival (s : State) (priority : Nat) : State :=
  match s.engine.state, s.engine.current with
  | .idle, _ => s.becomeIdle
  | .starting, some p => if priority < p.cue.priority ∧ p.cue.mode ≠ .firm then s.displace else s
  | .playing, some p => if priority < p.cue.priority ∧ p.cue.mode ≠ .firm then s.startYield else s
  | _, _ => s

/-- Room is made for an offered cue: there is room already, or a last cue of strictly worse priority is evicted; none when
the offer is refused (R67). -/
def State.makeRoom (s : State) (priority : Nat) : Option State :=
  if s.cues.waiting.length < Config.cueListMax then some s
  else
    match s.cues.waiting.getLast? with
    | none => some s
    | some last =>
      if priority < last.priority then
        some ((s.setWaiting s.cues.waiting.dropLast).endCue last .evicted)
      else none

/-- An offered cue is admitted: it receives its id and entry time, takes its place, and its slot's reference and entry's
latch are taken; then the engine is told (R65, R67). -/
def State.enterList (s : State) (c : Cue) : State :=
  let cue := { c with id := s.newId, entryTime := s.stb }
  let s := s.setCues
    { waiting := insertCue cue s.cues.waiting, nextId := if cue.id = 255 then 1 else cue.id + 1 }
  ((s.referAction c.action).latch c.source).arrival c.priority

/-- A cue offered to the Cue List: the state and the id assigned, or none when it is refused (R67). -/
def State.offer (s : State) (c : Cue) : Option (State × Nat) :=
  match s.makeRoom c.priority with
  | none => none
  | some u => some (u.enterList c, u.newId)

/-! ## Making a cue (R45, R53, R71) -/

/-- The counters of a new cue (R64). -/
def zeroCounters : Counters := { planned := 0, fired := 0, firedLate := 0, dropped := 0, suspensions := 0 }

/-- The action of a cue made at a calendar second: a COUNT action's strokes are derived there (R45). -/
def ActionSpec.action (a : ActionSpec) (t : CalTime) : Action :=
  match a with
  | .score slot beat repeats => .score slot beat repeats
  | .count bell velocity interval rule => .count bell velocity interval (strokeCount rule t)

/-- The mode of a cue: a COUNT cue is FIRM whatever is written (R53, R71). -/
def ActionSpec.cueMode (a : ActionSpec) (written : Mode) : Mode :=
  match a with
  | .score .. => written
  | .count .. => .firm

/-- A cue as it is offered, with neither id nor entry time (R53, R64, R71). -/
def newCue (source : Source) (a : ActionSpec) (t : CalTime) (priority : Nat) (mode : Mode) (maxWait : Nat) : Cue :=
  { id := 0, source := source, action := a.action t, priority := priority, mode := a.cueMode mode, maxWait := maxWait
    entryTime := 0, started := false, saved := none, counters := zeroCounters }

/-- A SCORE action's slot is READY; a COUNT action needs none (R51, R71). -/
def State.actionReady (s : State) : ActionSpec → Bool
  | .score slot _ _ => decide (s.scores.slots[slot].state = .ready)
  | .count .. => true

/-! ## Expiry (R69, R92) -/

/-- A waiting time that began at `since` has run out by `now`; a max wait of 0 never runs out (R69, R92). -/
def waitOver (maxWait : Nat) (since now : Stb) : Bool :=
  decide (0 < maxWait) && decide (since + maxWait * 1000 ≤ now)

/-- The waiting cue of this id (R72, R93). -/
def State.listed (s : State) (cueId : Nat) : Option Cue := s.cues.waiting.find? fun c => decide (c.id = cueId)

/-- A waiting cue leaves the list (R69, R93). -/
def State.unlist (s : State) (cueId : Nat) : State :=
  s.setWaiting (s.cues.waiting.filter fun c => decide (c.id ≠ cueId))

end Sys2Proof.Machine
end

