-- ==== Sys2Proof/Machine/Taking.lean ====
section
/-! DEFINITION. The Strike Planner takes records, wraps and strokes (R104 to R113, R118, R122), and reports to the
engine (R77, R83, R121). -/

namespace Sys2Proof.Machine

/-- The planner reports done (R109): a PLAYING engine enters DRAINING; a YIELDING one with no yield point drops the
preemption and enters DRAINING (R77, R83); in STARTING the report waits for the origin (R76). -/
def State.reportDone (s : State) : State :=
  match s.engine.state, s.engine.current with
  | .playing, _ => s.setEngineState .draining
  | .yielding, some p =>
    match p.yield with
    | some { point := none, .. } =>
      s.setEngine { s.engine with state := .draining, current := some { p with yield := none } }
    | _ => s
  | _, _ => s

/-- With nothing left to plan the planner becomes DONE and reports it (R108, R109, R122). -/
def State.doneIfLast (s : State) : State :=
  if s.nextItem.isNone then (s.setPlanner { s.planner with state := .done }).reportDone else s

/-- A logged context may be the yield point a YIELDING engine waits for: if it sounds by the deadline it is, and the
planner stops (R83). -/
def State.offerYieldPoint (s : State) (c : LogContext) : State :=
  match s.engine.state, s.engine.current with
  | .yielding, some p =>
    match p.yield with
    | some { start := start, deadline := deadline, point := none } =>
      if c.sound ≤ deadline then
        (s.setCurrent (some { p with yield := some { start := start, deadline := deadline, point := some c } })).plannerStop
      else s
    | _ => s
  | _, _ => s

/-- A breath mark is taken: the phrase counter rises, a context is logged, contexts it overtakes retire, and the engine
looks at it (R108, R111, R112). -/
def State.takeMark (s : State) (c : Cursor) : State :=
  let mark : LogContext :=
    { phrase := s.planner.phrase + 1, index := c.index, repeats := c.repeats, beat := c.beat, sound := c.point }
  let s := s.setCursor c
  let s := s.setPlanner
    { s.planner with phrase := mark.phrase, log := retire s.stb (s.planner.log ++ [mark]) }
  s.offerYieldPoint mark

/-- A note's origin in the Strike Queue: the stint's cue and the phrase counter (R118). -/
def State.noteOrigin (s : State) : EntryOrigin :=
  match s.planner.stint with
  | some st => .performance st.cueId s.planner.phrase
  | none => .direct

/-- A note is reported as planned for the stint's cue (R121). -/
def State.reportPlanned (s : State) : State :=
  match s.planner.stint with
  | some st => s.report st.cueId Counters.addPlanned
  | none => s

/-- A note the planner dropped is reported as dropped (R121). -/
def State.reportNoteDropped (s : State) : State :=
  match s.planner.stint with
  | some st => s.report st.cueId Counters.addDropped
  | none => s

/-- A NOTE or stroke is taken (R114 to R119, R121): placed or dropped with the cursor moved on, or, for want of room in
the Strike Queue, not taken and the planner stalled. -/
def State.takeNote (s : State) (bell : Bell) (velocity : Nat) (c : Cursor) : State :=
  match s.noteOutcome bell velocity c.point s.noteOrigin with
  | .stalled => s.plannerStall .queue
  | .dropped _ => (((s.setCursor c).reportPlanned).reportNoteDropped).doneIfLast
  | .placed e => (((s.place e).setCursor c).reportPlanned).doneIfLast

/-- One item is taken, or stalls the planner (R104). -/
def State.takeItem (s : State) : State :=
  match s.nextItem with
  | none => s
  | some (.note bell velocity, c) => s.takeNote bell velocity c
  | some (.tempo beat, c) => (s.setCursor { c with beat := beat }).doneIfLast
  | some (.lastBreath, c) => (s.setCursor c).doneIfLast
  | some (.breath, c) | some (.wrap, c) =>
    if s.planner.log.length < Config.breathLogMax then s.takeMark c else s.plannerStall .log

/-- Items are taken, in order, while the planner is PLANNING and the next lies within the horizon, at most `fuel` of
them (R104). -/
def State.takeItems : Nat → State → State
  | 0, s => s
  | fuel + 1, s =>
    if s.planner.state = .planning ∧ s.itemInHorizon = true then takeItems fuel s.takeItem else s

/-- At least as many items as the stint can still hold: every record of every pass left, and its wraps, or every
stroke. -/
def State.itemsLeft (s : State) : Nat :=
  match s.planner.stint with
  | none => 0
  | some st =>
    match st.action with
    | .count _ _ _ strokes => strokes + 1
    | .score .. => (st.cursor.repeats + 1) * (st.header.recordCount + 1)

/-- The planner takes everything now within the horizon (R104). -/
def State.takeDue (s : State) : State := s.takeItems s.itemsLeft

/-- The stall's cause is cleared: room in the Strike Queue, or in the breath log (R113, R118). -/
def State.stallCleared (s : State) : Bool :=
  match s.planner.stall with
  | some .queue => decide (s.queue.length < Config.strikeQueueMax)
  | some .log => decide (s.planner.log.length < Config.breathLogMax)
  | none => false

/-- A stalled planner returns to PLANNING, takes the stalled note or mark afresh, and goes on taking (R113, R118). -/
def State.resumePlanning (s : State) : State :=
  (s.setPlanner { s.planner with state := .planning, stall := none }).takeDue

/-- Contexts overtaken by a newer one leave the breath log (R112). -/
def State.retireContexts (s : State) : State :=
  s.setPlanner { s.planner with log := retire s.stb s.planner.log }

end Sys2Proof.Machine
end

