-- ==== Sys2Proof/Machine/Channels.lean ====
section
/-! DEFINITION. Channels, pulses, impact windows, faults and learned flight: the Channel Dispatcher and the Flight
Monitor where they meet (07_strike_queue_and_channel_dispatch.md, 09_flight_monitor_and_channel_test.md). The channel test
stands in Testing.lean. -/

namespace Sys2Proof.Machine

/-! ## Pulses and withdrawals -/

/-- A channel whose running pulse is cut (R138): gate off, pulse end at the cut, recovery counted from it. A channel with
no pulse keeps its recovery end. The state is the event's own. -/
def Channel.cutTo (c : Channel) (next : ChannelState) (now : Stb) (recovery : Nat) : Channel :=
  if c.state = .firing then
    { c with state := next, gate := false, pulseEnd := some now, recoveryEnd := now + recovery }
  else { c with state := next }

/-- The entry is for a bell. -/
def StrikeEntry.onBell (e : StrikeEntry) (b : Bell) : Bool := decide (e.bell = b)

/-- A channel leaves service (R143, R144): its pulse is cut, its entries are dropped as CHANNEL, and the shadow of a bell
that lost entries is set anew once that is done (R120). -/
def State.withdraw (s : State) (b : Bell) (next : ChannelState) : State :=
  ((s.setChannel b (s.channels[b].cutTo next s.stb s.bells[b].config.recovery)).dropEntries fun e => e.onBell b).resetShadows
    (s.bellsLosing fun e => e.onBell b)

/-- A window is abandoned without an outcome (R173). -/
def State.abandonWindow (s : State) (b : Bell) : State := s.setWindow b none

/-- The Flight Monitor faults a channel (R144, R172): the channel, in READY, FIRING or RECOVERING, leaves service for
FAULT, the cause is recorded and CHANNEL_FAULT queued. -/
def State.faultChannel (s : State) (b : Bell) (cause : FaultCause) : State :=
  if s.channels[b].state.inService then
    let s := s.withdraw b .fault
    (s.setBell b { s.bells[b] with faultCause := cause }).raise (.channelFault b cause)
  else s

/-! ## Windows (R166 to R172) -/

/-- How long a window stays open after its pulse start: the ceiling scaled to the velocity and rounded up, and 20 ms
(R166). -/
def windowLength (ceiling velocity : Nat) : Nat := (ceiling * velocityFactor velocity + 63) / 64 + 20

/-- A window closes as a miss: the misses rise, and at their limit the channel is faulted NO_IMPACT (R171, R172). -/
def State.miss (s : State) (b : Bell) : State :=
  let misses := saturatingSucc Config.missLimit s.bells[b].misses
  let s := s.setBell b { s.bells[b] with misses := misses }
  if misses = Config.missLimit then s.faultChannel b .noImpact else s

/-- The window already open on a bell is settled before a new one opens: closed, as a miss if AWAITING (R167). -/
def State.supersedeWindow (s : State) (b : Bell) : State :=
  match s.monitor.windows[b] with
  | none => s
  | some w => if w.answered then s.setWindow b none else (s.setWindow b none).miss b

/-- A pulse of a queued entry opens the bell's window, unless settling the old one has faulted the channel (R166,
R167). -/
def State.openWindow (s : State) (b : Bell) (velocity : Nat) : State :=
  let s := s.supersedeWindow b
  if s.channels[b].state = .fault then s
  else
    s.setWindow b
      (some
        { pulseStart := s.stb, velocity := velocity
          closeTime := s.stb + windowLength s.bells[b].config.ceiling velocity, answered := false })

/-- A window's observation of an impact, in ticks16: its leading edge less the pulse start (R169). An edge that lies before
the pulse start is a very short flight (R167, R184), whose value, at least 0 (R169), the manual does not give: a free
value of at most 1 ms (log 7). -/
def State.observation (s : State) (edge : Nat) (pulseStart : Stb) : Nat × State :=
  if 16 * pulseStart ≤ edge then (edge - 16 * pulseStart, s) else s.freeValue Config.shortestFlight

/-- An observation referred to velocity 8 (R169). -/
def referred (obs velocity : Nat) : Nat := (obs * 64 + velocityFactor velocity / 2) / velocityFactor velocity

/-- The distance of two quantities. -/
def distance (a b : Nat) : Nat := (a - b) + (b - a)

/-- A referred observation is an outlier: more than a quarter of the learned flight away from it (R169). -/
def isOutlier (obsRef flight : Nat) : Bool := decide (flight < distance obsRef flight * 4)

/-- The learned flight after an accepted observation, clamped between floor and ceiling (R170). -/
def learnedFlight (c : BellConfig) (flight obsRef : Nat) : Nat :=
  let l := (7 * flight + obsRef + 4) / 8
  if l < 16 * c.floor then 16 * c.floor else if 16 * c.ceiling < l then 16 * c.ceiling else l

/-- An observation is judged (R169 to R172): accepted, both counts clear and the flight learns if learning is on; an
outlier, the misses clear and the outliers rise, and at their limit the channel is faulted ERRATIC. -/
def State.judge (s : State) (b : Bell) (obsRef : Nat) : State :=
  let r := s.bells[b]
  if isOutlier obsRef r.flight then
    let outliers := saturatingSucc Config.outlierLimit r.outliers
    let s := s.setBell b { r with misses := 0, outliers := outliers }
    if outliers = Config.outlierLimit then s.faultChannel b .erratic else s
  else
    s.setBell b
      { r with
        misses := 0, outliers := 0
        flight := if r.config.learning then learnedFlight r.config r.flight obsRef else r.flight }

/-- A window takes an impact (R168): AWAITING, it is the observation and the window is ANSWERED; ANSWERED, it is
ignored. -/
def State.windowImpact (s : State) (b : Bell) (w : Window) (edge : Nat) : State :=
  if w.answered then s
  else
    let o := s.observation edge w.pulseStart
    (o.2.setWindow b (some { w with answered := true })).judge b (referred o.1 w.velocity)

/-- A stray impact: the count rises, and STRAY_IMPACT is queued when it goes from 0 to 1 (R174). -/
def State.stray (s : State) (b : Bell) : State :=
  let r := s.bells[b]
  let s := s.setBell b { r with strays := saturatingSucc 255 r.strays }
  if r.strays = 0 then s.raise (.strayImpact b) else s

/-! ## Serving (R131 to R135) -/

/-- An entry is due (R131). -/
def State.entryDue (s : State) (e : StrikeEntry) : Bool := decide (e.earliest ≤ s.stb)

/-- An entry is more than the late limit past its target (R132). -/
def State.entryLate (s : State) (e : StrikeEntry) : Bool := decide (e.target + s.reservoir.lateLimit < s.stb)

/-- The due entry to be dropped LATE, the first in queue order (R132). -/
def State.lateEntry (s : State) : Option StrikeEntry := s.queue.find? fun e => s.entryDue e && s.entryLate e

/-- The due entry that asks for charge: the first, in queue order, that is not late and whose channel is READY; those
passed over do not block (R133). -/
def State.askingEntry (s : State) : Option StrikeEntry :=
  s.queue.find? fun e => s.entryDue e && !s.entryLate e && decide (s.channels[e.bell].state = .ready)

/-- A strike's draw is granted: the charge covers the cost, and no test draw waits (R134, R154). -/
def State.drawGranted (s : State) (e : StrikeEntry) : Bool :=
  decide (e.cost ≤ s.reservoir.charge) && s.reservoir.testDraw.isNone

/-- The entry that fires at this moment, if one does: the asking entry, its draw granted; refused, it blocks every entry
behind it (R133). -/
def State.firingEntry (s : State) : Option StrikeEntry :=
  match s.askingEntry with
  | none => none
  | some e => if s.drawGranted e then some e else none

/-- The reports of a firing (R94, R135, R140). -/
def State.reportFired (s : State) (e : StrikeEntry) : State :=
  match e.origin with
  | .direct => s
  | .performance id _ =>
    let s := s.report id Counters.addFired
    if e.target < s.stb then s.report id Counters.addFiredLate else s

/-- The upper end of a fired count (R2). -/
def firedTop : Nat := 4294967295

/-- An entry fires (R135). -/
def State.fire (s : State) (e : StrikeEntry) : State :=
  let s := s.setQueue (s.queue.erase e)
  let s := s.setReservoir { s.reservoir with charge := s.reservoir.charge - e.cost }
  let s := s.setChannel e.bell
    { s.channels[e.bell] with state := .firing, pulseEnd := some (s.stb + e.width), gate := true }
  let s := s.setBell e.bell { s.bells[e.bell] with fired := saturatingSucc firedTop s.bells[e.bell].fired }
  (s.reportFired e).openWindow e.bell e.velocity

/-- A due entry past the late limit leaves the queue, dropped LATE; its bell and its shadow stay as they are (R132). -/
def State.dropLate (s : State) (e : StrikeEntry) : State :=
  (s.setQueue (s.queue.erase e)).reportDrop e

/-- Every due entry now too late leaves at once, dropped LATE (R149). -/
def State.dropAllLate (s : State) : State := s.dropEntries fun e => s.entryDue e && s.entryLate e

/-- A pulse runs to its end: gate off, RECOVERING, the recovery end counted from the pulse end (R136). -/
def State.endPulse (s : State) (b : Bell) (pulseEnd : Stb) : State :=
  s.setChannel b
    { s.channels[b] with
      state := .recovering, gate := false, pulseEnd := none
      recoveryEnd := pulseEnd + s.bells[b].config.recovery }

end Sys2Proof.Machine
end

