-- ==== Sys2Proof/Machine/Testing.lean ====
section
/-! DEFINITION. The channel test: its pulse, its window, its result and its end (09, R175 to R183; 07, R147). -/

namespace Sys2Proof.Machine

/-- A test's end returns its channel to the prior state, or to RECOVERING for a prior state of READY whose recovery end
has not passed (R147, R181). -/
def Channel.afterTest (c : Channel) (now : Stb) : Channel :=
  { c with
    state := match c.prior with
      | some .ready => if c.recoveryEnd ≤ now then .ready else .recovering
      | some p => p
      | none => c.state
    prior := none, gate := false }

/-- The test ends: its record is cleared and its channel returns (R181). -/
def State.endTest (s : State) (t : ChannelTest) : State :=
  (s.setTest none).setChannel t.bell (s.channels[t.bell].afterTest s.stb)

/-- The TEST_RESULT of a result: the observation is present when it is OK, and 0 otherwise (R183). -/
def testNotice (t : ChannelTest) (result : TestResult) : Notice :=
  .testResult t.bell result (if result = .ok then (t.observation.getD 0).toNat else 0)

/-- The test settles: TEST_RESULT is queued and the test enters SETTLED (R179, R180). -/
def State.settleTest (s : State) (t : ChannelTest) (result : TestResult) : State :=
  (s.setTest (some { t with phase := .settled, result := some result })).raise (testNotice t result)

/-- The test pulse reaches its end: gate off, the pulse end cleared, the recovery end counted from it (R129, R147, R179). -/
def State.endTestPulse (s : State) (t : ChannelTest) (pulseEnd : Stb) : State :=
  s.setChannel t.bell
    { s.channels[t.bell] with
      pulseEnd := none, gate := false, recoveryEnd := pulseEnd + s.bells[t.bell].config.recovery }

/-- The test pulse is cut: gate off, the pulse end at the cut, the recovery end counted from it (R138, R147, R179;
log 20). -/
def State.cutTestPulse (s : State) (t : ChannelTest) : State :=
  s.setChannel t.bell
    { s.channels[t.bell] with
      pulseEnd := some s.stb, gate := false, recoveryEnd := s.stb + s.bells[t.bell].config.recovery }

/-- The result an observation gives: EARLY below the limit, else OK (R180). -/
def resultOf (t : ChannelTest) (obs : Int) : TestResult := if obs < t.earlyLimit then .early else .ok

/-- ISOVR in PULSE: the pulse is cut, SHORT (R179). -/
def State.shortTest (s : State) (t : ChannelTest) : State :=
  (s.cutTestPulse t).settleTest { t with pulseEnd := some s.stb } .short

/-- The draw is granted and the test pulse starts (R129, R147, R178): minimum current is seen, and an over-current cuts the
pulse, if its sense line is asserted at the start (R179). -/
def State.startTestPulse (s : State) (t : ChannelTest) : State :=
  let s := s.setReservoir { s.reservoir with charge := s.reservoir.charge - t.cost, testDraw := none }
  let s := s.setChannel t.bell { s.channels[t.bell] with pulseEnd := some (s.stb + t.width), gate := true }
  let t : ChannelTest :=
    { t with
      phase := .pulse, pulseStart := some s.stb, pulseEnd := some (s.stb + t.width), minSeen := s.monitor.ismin }
  if s.monitor.isovr then s.shortTest t else s.setTest (some t)

/-- The test pulse reaches its end (R179): OPEN without minimum current; else the impact heard during the pulse settles
it, or the test listens on. -/
def State.finishTestPulse (s : State) (t : ChannelTest) (pulseEnd : Stb) : State :=
  let s := s.endTestPulse t pulseEnd
  if !t.minSeen then s.settleTest t .coilOpen
  else
    match t.observation with
    | some obs => s.settleTest t (resultOf t obs)
    | none => s.setTest (some { t with phase := .listening })

/-- An impact on a TESTING channel is offered to its test (R165, R180): the first in the window is the observation, which
settles a LISTENING test; any other is ignored. -/
def State.testImpact (s : State) (b : Bell) (edge : Nat) : State :=
  match s.monitor.test with
  | none => s
  | some t =>
    if t.bell = b ∧ t.observation = none ∧ (t.phase = .pulse ∨ t.phase = .listening) then
      let obs : Int := edge - 16 * (t.pulseStart.getD 0 : Nat)
      let t := { t with observation := some obs }
      if t.phase = .listening then s.settleTest t (resultOf t obs) else s.setTest (some t)
    else s

/-- When the test window closes: the earlier of the pulse start plus the window length and the recovery end (R180). -/
def State.testWindowEnd (s : State) (t : ChannelTest) : Stb :=
  min (t.pulseStart.getD 0 + t.windowLength) s.channels[t.bell].recoveryEnd

/-- The test window closes with no impact: NO_IMPACT, and the test ends at once if the recovery end has passed (R180,
R181). -/
def State.closeTestWindow (s : State) (t : ChannelTest) : State :=
  let s := s.settleTest t .noImpact
  if s.channels[t.bell].recoveryEnd ≤ s.stb then s.endTest t else s

/-- The wait deadline passes: NOT_FIRED, the waiting draw ends, and the test ends (R178). -/
def State.expireTest (s : State) (t : ChannelTest) : State :=
  ((s.setReservoir { s.reservoir with testDraw := none }).raise (testNotice t .notFired)).endTest t

/-- A hold ends a test in progress (R182). Its TEST_RESULT is left to the caller, to stand behind HOLD (R89). -/
def State.interruptTest (s : State) : State × Option Notice :=
  match s.monitor.test with
  | none => (s, none)
  | some t =>
    match t.phase with
    | .waiting =>
      ((s.setReservoir { s.reservoir with testDraw := none }).endTest t, some (testNotice t .notFired))
    | .pulse => ((s.cutTestPulse t).endTest t, some (testNotice t .interrupted))
    | .listening => (s.endTest t, some (testNotice t .interrupted))
    | .settled => (s.endTest t, none)

/-- A test is accepted (R177): the record is formed, an open window abandoned, the channel enters TESTING with its
entries dropped and its shadow at the STB (R147; log 19), and the test draw waits (R155). -/
def State.acceptTest (s : State) (b : Bell) : State :=
  let c := s.bells[b].config
  let cost := c.driveWidth * c.coilClass
  let s := s.setTest
    (some
      { bell := b, phase := .waiting, acceptedAt := s.stb, deadline := s.stb + Config.testWait, width := c.driveWidth
        cost := cost, windowLength := 2 * c.ceiling + 20, earlyLimit := 8 * c.floor, pulseStart := none
        pulseEnd := none, minSeen := false, observation := none, result := none })
  let s := s.abandonWindow b
  let s := s.setChannel b { s.channels[b] with state := .testing, prior := some s.channels[b].state }
  let s := (s.dropEntries fun e => e.onBell b).setShadow b s.stb
  s.setReservoir { s.reservoir with testDraw := some (b, cost) }

end Sys2Proof.Machine
end

