-- ==== Sys2Proof/Machine/Hold.lean ====
section
/-! DEFINITION. Holds: a source appears, a source leaves, the settle ends (05, R88 to R91). -/

namespace Sys2Proof.Machine

/-- The two members of the hold source set (R88). -/
inductive HoldSource
  | interlock | fail
deriving DecidableEq, Repr

/-- The set with a source joined or gone. -/
def Engine.setSource (e : Engine) (h : HoldSource) (present : Bool) : Engine :=
  match h with
  | .interlock => { e with interlock := present }
  | .fail => { e with fail := present }

/-- Every pulse in progress is cut, each FIRING channel entering RECOVERING (R138). -/
def State.cutPulses (s : State) : State :=
  s.setChannels
    (Vector.ofFn fun b : Bell =>
      let c := s.channels[b]
      if c.state = .firing then c.cutTo .recovering s.stb s.bells[b].config.recovery else c)

/-- Every open window is abandoned (R173). -/
def State.abandonWindows (s : State) : State :=
  s.setMonitor { s.monitor with windows := Vector.replicate 64 none }

/-- The current performance becomes the held one, with the fallback context to resume from; the planner's stint ends
(R81, R89 step 3, R123). -/
def State.holdPerformance (s : State) : State :=
  match s.engine.current with
  | none => s
  | some p =>
    (s.setEngine { s.engine with current := none, held := some { cue := p.cue, context := s.fallback } }).plannerEnd

/-- A hold is entered (R89): the queue is flushed uncounted; pulses are cut, windows abandoned and a test ended; shadows
follow; the performance is held; HOLD entering is queued, and the test's notice behind it. -/
def State.enterHold (s : State) : State :=
  let losing := s.bellsLosing fun _ => true
  let s := s.setQueue []
  let s := (s.cutPulses).abandonWindows
  let test := s.interruptTest
  let s := (test.1.resetShadows losing).holdPerformance
  let s := s.setEngine { s.engine with state := .held, holdStart := s.stb, settle := none }
  (s.raise (.hold true s.engine.interlock s.engine.fail)).raiseOption test.2

/-- A hold source appears (R89, R90): it joins the set; an engine not HELD enters the hold; in a hold a running settle is
cancelled and no notice is sent. -/
def State.sourceAppears (s : State) (h : HoldSource) : State :=
  let s := s.setEngine (s.engine.setSource h true)
  if s.engine.state = .held then s.setEngine { s.engine with settle := none } else s.enterHold

/-- A hold source leaves (R90): when, in HELD, the last one has gone, the settle begins. -/
def State.sourceLeaves (s : State) (h : HoldSource) : State :=
  let s := s.setEngine (s.engine.setSource h false)
  if s.engine.state = .held ∧ s.engine.sourcePresent = false then
    s.setEngine { s.engine with settle := some (s.stb + Config.settleTime) }
  else s

/-- The head of the list is strictly better than the resumed performance, which is not FIRM (R91). -/
def State.headDisplaces (s : State) (c : Cue) : Bool :=
  match s.cues.waiting with
  | [] => false
  | h :: _ => decide (h.priority < c.priority) && decide (c.mode ≠ .firm)

/-- The settle ends (R91): HOLD leaving is queued; a held performance resumes, and is at once displaced by a better head;
without one the engine enters IDLE. -/
def State.leaveHold (s : State) : State :=
  let s := (s.setEngine { s.engine with settle := none }).raise (.hold false false false)
  match s.engine.held with
  | some h =>
    let s := (s.setEngine { s.engine with held := none }).startStint h.cue (some h.context)
    if s.headDisplaces h.cue then s.displace else s
  | none => s.becomeIdle

end Sys2Proof.Machine
end

