-- ==== Sys2Proof/Machine/Power.lean ====
section
/-! DEFINITION. Striking Power's events: the refill step and the rail (08_striking_power.md). -/

namespace Sys2Proof.Machine

/-- The refill step (R153): the charge rises by the effective rate, at most to the capacity. -/
def Reservoir.refill (r : Reservoir) : Reservoir :=
  { r with charge := min (r.charge + effectiveRate r.rail r.refillRate) r.capacity }

/-- The refill step of the present millisecond is taken (R153; log 2). -/
def State.refill (s : State) : State :=
  (s.setReservoir s.reservoir.refill).setRefillDue false

/-- The debouncer of a supply line. -/
def Reservoir.debouncer (r : Reservoir) : RailLine → Debouncer
  | .low => r.low
  | .failing => r.failing

/-- Striking Power with a supply line's debouncer replaced. -/
def Reservoir.setDebouncer (r : Reservoir) (line : RailLine) (d : Debouncer) : Reservoir :=
  match line with
  | .low => { r with low := d }
  | .failing => { r with failing := d }

/-- The rail level that the two debounced lines give now (R157). -/
def Reservoir.derivedLevel (r : Reservoir) : RailLevel := railLevelOf r.low.level r.failing.level

/-- The rail level is derived again (R157). If it differs it is taken and RAIL is queued; entering FAIL empties the
account and FAIL appears as a hold source (R158), leaving FAIL it leaves the set (R159). -/
def State.deriveRail (s : State) : State :=
  let before := s.reservoir.rail
  let level := s.reservoir.derivedLevel
  if level = before then s
  else
    let s := (s.setReservoir { s.reservoir with rail := level }).raise (.rail level)
    if level = .fail then (s.setReservoir { s.reservoir with charge := 0 }).sourceAppears .fail
    else if before = .fail then s.sourceLeaves .fail
    else s

/-- A supply line's debounced level changes (R156, R157). -/
def State.settleRail (s : State) (line : RailLine) : State :=
  (s.setReservoir (s.reservoir.setDebouncer line (s.reservoir.debouncer line).settle)).deriveRail

/-- The interlock's debounced level changes: INTERLOCK joins or leaves the hold source set (R88). -/
def State.settleInterlock (s : State) : State :=
  let s := s.setEngine { s.engine with ilock := s.engine.ilock.settle }
  if s.engine.ilock.level then s.sourceAppears .interlock else s.sourceLeaves .interlock

end Sys2Proof.Machine
end

