-- ==== Sys2Proof/Machine/Schedule.lean ====
section
/-! DEFINITION. The Schedule Table's walk of an evaluated second, and the seconds that a step or a TIME_SET evaluates
(03, R38 to R41; 04, R50 to R56). -/

namespace Sys2Proof.Machine

/-- A schedule entry fires at an evaluated second (R51, steps 3 to 5): skipped while latched or without its score; else a
cue is made by R53 and offered, and a refusal is a skip (R54). -/
def State.fireEntry (s : State) (i : EntryNo) (e : SchedEntry) (t : CalTime) : State :=
  if e.latched then s.raise (.fireSkipped i .latched)
  else if !s.actionReady e.action then s.raise (.fireSkipped i .noScore)
  else
    match s.offer (newCue (.schedule i) e.action t e.priority e.mode e.maxWait) with
    | none => s.raise (.fireSkipped i .listFull)
    | some admitted => admitted.1

/-- One entry meets an evaluated second (R50, R51): a match whose stamp does not name this minute sets the stamp and
fires. -/
def State.walkEntry (t : CalTime) (s : State) (i : EntryNo) : State :=
  match s.schedule[i] with
  | none => s
  | some e =>
    if e.enabled && e.pattern.matches t && decide (e.stamp ≠ some (stampOf t)) then
      let stamped := { e with stamp := some (stampOf t) }
      (s.setEntry i (some stamped)).fireEntry i stamped t
    else s

/-- A second is evaluated: the entries are walked in ascending index order (R38, R51). DESIGN CHOICE (log 33): the walk is
not broken by a suspension that could complete within it (R84), nor by the planning of a stint that it starts (R104). -/
def State.evaluate (s : State) (t : CalTime) : State := (List.finRange 96).foldl (State.walkEntry t) s

/-- The seconds after a time are evaluated, this many of them, in ascending order (R41, catch-up), as one walk after
another with nothing between them (DESIGN CHOICE, log 33). -/
def State.catchUp : Nat → CalTime → State → State
  | 0, _, s => s
  | n + 1, t, s => catchUp n (nextSecond t) (s.evaluate (nextSecond t))

/-- The second step (R36, R38): the calendar advances; an operating part with the flag still at 1 evaluates the new
second. -/
def State.stepSecond (s : State) : State :=
  let s := s.setCalendar s.calendar.step
  if s.supply.operating && s.calendar.valid then s.evaluate s.calendar.time else s

/-- An accepted TIME_SET (R40, R41): with the flag at 0 the new second is evaluated; else the delta decides between a
catch-up, a jump with its notice, and the new second again. -/
def State.setTime (s : State) (t : CalTime) : State :=
  let old := s.calendar
  let delta := secondsBetween old.time t
  let s := s.setCalendar (old.setTo t)
  if !old.valid then s.evaluate t
  else if 1 ≤ delta ∧ delta ≤ Config.catchUpMax then s.catchUp delta.toNat old.time
  else if delta = 0 then s.evaluate t
  else (s.raise (.timeJump (clampDelta delta) (decide (0 < delta)))).evaluate t

end Sys2Proof.Machine
end

