-- ==== Sys2Proof/Machine/Requests.lean ====
section
/-! DEFINITION. What each request does: the owning block's checks in their order, the effect, and the reply's status and
fields (R195). The payload's length has been found right before any of these is asked. -/

namespace Sys2Proof.Machine

/-- An OK answer. -/
def State.okWith (s : State) (fields : List Byte) : Answer := { state := s, status := .ok, fields := fields }

/-! ## Link Port and Retention Monitor -/

/-- STATUS (R198): reports, then clears the overflow flag. -/
def doStatus (_p : List Byte) (s : State) : Answer :=
  (s.setNotices { s.notices with overflow := false }).okWith
    ([s.engine.state.code,
      byteOf (match s.engine.current with
        | some p => p.cue.id
        | none => 0),
      byteOf (match s.engine.held with
        | some h => h.cue.id
        | none => 0),
      sourceByte s.engine.interlock s.engine.fail, s.reservoir.rail.code, flagByte s.calendar.valid,
      byteOf s.cues.waiting.length, byteOf s.queue.length]
      ++ bigEndian 2 s.reservoir.charge ++ [flagByte s.notices.overflow, s.supply.startCause.code])

/-- RESTART (R205): accepted; nothing changes until the reply's last stop bit, which the Link Port now waits for. -/
def doRestart (_p : List Byte) (s : State) : Answer :=
  (s.setLink { s.link with restartPending := true }).okWith []

/-! ## Calendar Clock -/

/-- TIME_SET (R39 to R41). -/
def doTimeSet (p : List Byte) (s : State) : Answer :=
  match firstBad (timeChecks (timeFields p)) with
  | some i => s.refuseParam i
  | none => (s.setTime (timeFields p)).okWith []

/-- TIME_GET (R44). -/
def doTimeGet (_p : List Byte) (s : State) : Answer :=
  s.okWith
    (timeBytes s.calendar.time ++ [byteOf (weekday s.calendar.time), flagByte s.calendar.valid]
      ++ bigEndian 2 s.calendar.phase)

/-! ## Score Store -/

/-- SCORE_BEGIN (R22, R23). -/
def doScoreBegin (p : List Byte) (s : State) : Answer :=
  match firstBad (headerChecks p) with
  | some i => s.refuseParam i
  | none =>
    let i : SlotNo := Fin.ofNat 32 (u8 p 0)
    let h := headerFields p
    if 0 < s.scores.slots[i].refCount then s.refuse .busy
    else if s.blocksAvailable i < blocksNeeded h.recordCount then s.refuse .noSpace
    else
      let s := s.setSlot i
        { state := .loading, header := some h, chain := s.chainFor i h.recordCount, nextOffset := 0, refCount := 0 }
      s.okWith (bigEndian 2 s.freeCount)

/-- SCORE_DATA (R24). -/
def doScoreData (p : List Byte) (s : State) : Answer :=
  if ¬ u8 p 0 ≤ 31 then s.refuseParam 0
  else
    let i : SlotNo := Fin.ofNat 32 (u8 p 0)
    let x := s.scores.slots[i]
    let count := (p.length - 3) / 4
    if x.state ≠ .loading then s.refuse .notFound
    else if u16 p 1 ≠ x.nextOffset then
      { state := s, status := .sequence, fields := bigEndian 2 x.nextOffset }
    else if x.recordCount < u16 p 1 + count then s.refuseParam 2
    else
      let s := s.setScores { s.scores with mem := writeRecords s.scores.mem x.chain (u16 p 1) (p.drop 3) }
      let s := s.setSlot i { x with nextOffset := x.nextOffset + count }
      s.okWith (bigEndian 2 (x.nextOffset + count))

/-- SCORE_END (R25). -/
def doScoreEnd (p : List Byte) (s : State) : Answer :=
  if ¬ u8 p 0 ≤ 31 then s.refuseParam 0
  else
    let i : SlotNo := Fin.ofNat 32 (u8 p 0)
    let x := s.scores.slots[i]
    if x.state ≠ .loading then s.refuse .notFound
    else if x.nextOffset < x.recordCount then
      { state := s, status := .sequence, fields := bigEndian 2 x.nextOffset }
    else
      match firstInvalid s.scores.mem x.chain 0 x.recordCount with
      | none => (s.setSlot i { x with state := .ready }).okWith []
      | some n => { state := s.emptySlotAt i, status := .badScore, fields := bigEndian 2 n }

/-- SCORE_ERASE (R26). -/
def doScoreErase (p : List Byte) (s : State) : Answer :=
  if ¬ u8 p 0 ≤ 31 then s.refuseParam 0
  else
    let i : SlotNo := Fin.ofNat 32 (u8 p 0)
    if 0 < s.scores.slots[i].refCount then s.refuse .busy
    else
      let s := s.emptySlotAt i
      s.okWith (bigEndian 2 s.freeCount)

/-- SCORE_INFO (R27). -/
def doScoreInfo (p : List Byte) (s : State) : Answer :=
  if ¬ u8 p 0 ≤ 31 then s.refuseParam 0
  else
    let i : SlotNo := Fin.ofNat 32 (u8 p 0)
    let x := s.scores.slots[i]
    let h := x.headerOrZero
    s.okWith
      (x.state.code :: (bigEndian 2 h.recordCount ++ bigEndian 2 h.defaultBeat ++ [byteOf h.repeats]
        ++ bigEndian 2 h.repeatGap ++ bigEndian 2 x.nextOffset ++ bigEndian 2 x.chain.length ++ [byteOf x.refCount]
        ++ bigEndian 2 s.freeCount))

/-! ## Schedule Table -/

/-- The stamp a rewritten entry keeps: absent if it was EMPTY (R58). -/
def keptStamp : Option SchedEntry → Option Stamp
  | none => none
  | some e => e.stamp

/-- The entry is latched. -/
def isLatched : Option SchedEntry → Bool
  | none => false
  | some e => e.latched

/-- SCHED_WRITE (R57, R58). -/
def doSchedWrite (p : List Byte) (s : State) : Answer :=
  match firstBad (schedChecks p) with
  | some i => s.refuseParam i
  | none =>
    let i : EntryNo := Fin.ofNat 96 (u8 p 0)
    let f := actionFields p 9
    if isLatched s.schedule[i] then s.refuse .busy
    else
      (s.setEntry i
        (some
          { enabled := u8 p 1 == 1, latched := false, stamp := keptStamp s.schedule[i], pattern := patternOf p
            priority := f.priority, mode := Mode.ofCode f.mode, maxWait := f.maxWait, action := f.action })).okWith []

/-- A schedule entry as SCHED_READ's reply carries it (R59; 12, Schedule entry). -/
def entryBytes (i : Nat) : Option SchedEntry → List Byte
  | none => byteOf i :: List.replicate 29 0
  | some e =>
    [byteOf i, 1, flagByte e.enabled, flagByte e.latched] ++ stampBytes e.stamp ++ e.pattern.bytes
      ++ [e.action.kindByte, byteOf e.priority, e.mode.code] ++ bigEndian 2 e.maxWait ++ e.action.bytes

/-- SCHED_READ (R59). -/
def doSchedRead (p : List Byte) (s : State) : Answer :=
  if ¬ u8 p 0 ≤ 95 then s.refuseParam 0
  else s.okWith (entryBytes (u8 p 0) s.schedule[(Fin.ofNat 96 (u8 p 0) : EntryNo)])

/-- SCHED_ENABLE (R60). -/
def doSchedEnable (p : List Byte) (s : State) : Answer :=
  match firstBad [within 0 95 (u8 p 0), within 0 1 (u8 p 1)] with
  | some i => s.refuseParam i
  | none =>
    let i : EntryNo := Fin.ofNat 96 (u8 p 0)
    match s.schedule[i] with
    | none => s.refuse .notFound
    | some e => (s.setEntry i (some { e with enabled := u8 p 1 == 1 })).okWith []

/-- SCHED_CLEAR (R61). -/
def doSchedClear (p : List Byte) (s : State) : Answer :=
  if ¬ u8 p 0 ≤ 95 then s.refuseParam 0
  else
    let i : EntryNo := Fin.ofNat 96 (u8 p 0)
    if isLatched s.schedule[i] then s.refuse .busy else (s.setEntry i none).okWith []

/-! ## Cue List and Performance Engine -/

/-- The count rule reads the calendar (R45, R71). -/
def ActionSpec.readsClock : ActionSpec → Bool
  | .count _ _ _ .hour12 | .count _ _ _ .quarter => true
  | _ => false

/-- PLAY (R71). -/
def doPlay (p : List Byte) (s : State) : Answer :=
  let f := actionFields p 0
  match firstBad (actionChecks f) with
  | some i => s.refuseParam i
  | none =>
    if !s.actionReady f.action then s.refuse .notFound
    else if f.action.readsClock && !s.calendar.valid then s.refuse .noTime
    else
      match s.offer (newCue .direct f.action s.calendar.time f.priority (Mode.ofCode f.mode) f.maxWait) with
      | none => s.refuse .listFull
      | some (t, cueId) => t.okWith [byteOf cueId]

/-- STOP (R93): the current performance by its id or by 0, the held performance, or a listed cue. -/
def doStop (p : List Byte) (s : State) : Answer :=
  let n := u8 p 0
  match s.engine.current with
  | some q =>
    if n = 0 ∨ n = q.cue.id then (s.abortPerformance q).okWith []
    else stopOther n
  | none => stopOther n
where
  /-- An id that does not name the current performance: the held one, a listed cue, or nothing (R93). -/
  stopOther (n : Nat) : Answer :=
    match s.engine.held with
    | some h =>
      if n = h.cue.id then ((s.setEngine { s.engine with held := none }).endCue h.cue .cancelled).okWith []
      else stopListed n
    | none => stopListed n
  /-- An id that names neither (R93). -/
  stopListed (n : Nat) : Answer :=
    match s.listed n with
    | some c => ((s.unlist n).endCue c .cancelled).okWith []
    | none => s.refuse .notFound

/-- A cue as CUE_READ's reply carries it: location, list position, fields, context and counters (R72; 12, Cue record). -/
def cueBytes (location position : Nat) (c : Cue) (context : Option Context) : List Byte :=
  [byteOf location, byteOf position, byteOf c.id] ++ c.source.bytes
    ++ [c.action.kindByte, byteOf c.priority, c.mode.code] ++ bigEndian 2 c.maxWait ++ c.action.bytes
    ++ bigEndian 6 c.entryTime ++ [flagByte c.started]
    ++ (match context with
        | none => [0, 0, 0, 0, 0, 0]
        | some x => 1 :: (bigEndian 2 x.index ++ [byteOf x.repeats] ++ bigEndian 2 x.beat))
    ++ c.counters.bytes

/-- What a cue id names: its location, list position, cue and context; none when it names nothing (R72). -/
def State.locate (s : State) (n : Nat) : Option (Nat × Nat × Cue × Option Context) :=
  let listed : Option (Nat × Nat × Cue × Option Context) :=
    match s.cues.waiting.findIdx? fun c => decide (c.id = n), s.listed n with
    | some i, some c => some (2, i, c, c.saved)
    | _, _ => none
  let heldOr : Option (Nat × Nat × Cue × Option Context) :=
    match s.engine.held with
    | some h => if n = h.cue.id then some (1, 0, h.cue, some h.context) else listed
    | none => listed
  match s.engine.current with
  | some q =>
    if n = 0 ∨ n = q.cue.id then some (0, 0, q.cue, if q.fromSaved then some q.context else none) else heldOr
  | none => heldOr

/-- CUE_READ (R72). -/
def doCueRead (p : List Byte) (s : State) : Answer :=
  match s.locate (u8 p 0) with
  | none => s.refuse .notFound
  | some (location, position, c, context) => s.okWith (cueBytes location position c context)

/-- SETTINGS_WRITE (R98, R149, R160): the four settings together; the charge is clamped to a lowered capacity, and due
entries now too late leave at once. -/
def doSettingsWrite (p : List Byte) (s : State) : Answer :=
  match firstBad (settingsChecks p) with
  | some i => s.refuseParam i
  | none =>
    let s := s.setEngine { s.engine with breathLimit := u8 p 0 }
    let s := s.setReservoir
      { s.reservoir with
        lateLimit := u8 p 1, capacity := u16 p 2, refillRate := u8 p 4, charge := min s.reservoir.charge (u16 p 2) }
    s.dropAllLate.okWith []

/-- SETTINGS_READ (R98, R161). -/
def doSettingsRead (_p : List Byte) (s : State) : Answer := s.okWith s.settingsBytes

/-! ## Bell Table -/

/-- The channel after an accepted BELL_WRITE (R10, R146): ABSENT without a striker; DISABLED from ABSENT with one; else
as it was. -/
def channelAfterWrite (present : Bool) (state : ChannelState) : ChannelState :=
  if !present then .absent else if state = .absent then .disabled else state

/-- The record after an accepted BELL_WRITE (R10): the flight at its seed, the counters clear; without a striker the bell
is out of service with no fault. -/
def recordAfterWrite (r : BellRecord) (c : BellConfig) : BellRecord :=
  { config := c
    enabled := if c.present then r.enabled else false
    faultCause := if c.present then r.faultCause else .none
    flight := 16 * c.seed
    fired := 0, strays := 0, misses := 0, outliers := 0 }

/-- BELL_WRITE (R8 to R10): a channel that enters ABSENT has its window abandoned (R173). -/
def doBellWrite (p : List Byte) (s : State) : Answer :=
  match firstBad (configChecks p) with
  | some i => s.refuseParam i
  | none =>
    let c := configFields p
    match constraintBad c with
    | some i => s.refuseParam i
    | none =>
      let b : Bell := Fin.ofNat 64 (u8 p 0)
      match s.channels[b].state with
      | .ready | .firing | .recovering | .testing => s.refuse .channelState
      | .absent | .disabled | .fault =>
        let s := s.setBell b (recordAfterWrite s.bells[b] c)
        let s := s.setChannel b { s.channels[b] with state := channelAfterWrite c.present s.channels[b].state }
        (if c.present then s else s.abandonWindow b).okWith []

/-- BELL_READ (R12): the stray count is cleared after it has been placed in the reply. -/
def doBellRead (p : List Byte) (s : State) : Answer :=
  match firstBad [within 0 63 (u8 p 0), within 0 1 (u8 p 1)] with
  | some i => s.refuseParam i
  | none =>
    let b : Bell := Fin.ofNat 64 (u8 p 0)
    let r := s.bells[b]
    (if u8 p 1 = 1 then s.setBell b { r with strays := 0 } else s).okWith
      (r.config.bytes b ++ r.serviceBytes s.channels[b].state)

/-! ## Channel Dispatcher -/

/-- An answer that carries the channel state a service request leaves (R141, R210). -/
def State.withChannelState (s : State) (status : Status) (b : Bell) : Answer :=
  { state := s, status := status, fields := [s.channels[b].state.code] }

/-- BELL_ENABLE (R142, R4). -/
def doBellEnable (p : List Byte) (s : State) : Answer :=
  if ¬ u8 p 0 ≤ 63 then s.refuseParam 0
  else
    let b : Bell := Fin.ofNat 64 (u8 p 0)
    let c := s.channels[b]
    match c.state with
    | .disabled =>
      let s := s.setChannel b { c with state := if c.recoveryEnd ≤ s.stb then .ready else .recovering }
      (s.setBell b { s.bells[b] with enabled := true }).withChannelState .ok b
    | .ready | .firing | .recovering => s.withChannelState .ok b
    | .absent | .fault | .testing => s.withChannelState .channelState b

/-- BELL_DISABLE (R143, R4). -/
def doBellDisable (p : List Byte) (s : State) : Answer :=
  if ¬ u8 p 0 ≤ 63 then s.refuseParam 0
  else
    let b : Bell := Fin.ofNat 64 (u8 p 0)
    match s.channels[b].state with
    | .ready | .firing | .recovering =>
      let s := (s.withdraw b .disabled).abandonWindow b
      (s.setBell b { s.bells[b] with enabled := false }).withChannelState .ok b
    | .disabled => s.withChannelState .ok b
    | .absent | .fault => s.withChannelState .channelState b
    | .testing => s.withChannelState .busy b

/-- BELL_CLEAR_FAULT (R145, R4, R5, R7). -/
def doBellClearFault (p : List Byte) (s : State) : Answer :=
  if ¬ u8 p 0 ≤ 63 then s.refuseParam 0
  else
    let b : Bell := Fin.ofNat 64 (u8 p 0)
    match s.channels[b].state with
    | .fault =>
      let s := s.setChannel b { s.channels[b] with state := .disabled }
      (s.setBell b { s.bells[b] with enabled := false, faultCause := .none, misses := 0, outliers := 0 }).withChannelState
        .ok b
    | .testing => s.withChannelState .busy b
    | .absent | .disabled | .ready | .firing | .recovering => s.withChannelState .channelState b

/-- The entry a STRIKE forms, as the planner would (R148, step 5): the target is the STB. -/
def State.strikeEntry (s : State) (b : Bell) (velocity : Nat) : StrikeEntry :=
  let r := s.bells[b]
  { bell := b, velocity := velocity, width := pulseWidth r.config.driveWidth velocity, cost := pulseCost r.config velocity
    target := s.stb, earliest := max s.stb s.planner.shadow[b], sound := s.stb + lead r.flight velocity
    origin := .direct }

/-- STRIKE (R148). -/
def doStrike (p : List Byte) (s : State) : Answer :=
  match firstBad [within 0 63 (u8 p 0), within 1 8 (u8 p 1)] with
  | some i => s.refuseParam i
  | none =>
    let b : Bell := Fin.ofNat 64 (u8 p 0)
    if s.engine.sourcePresent then s.refuse .held
    else if s.engine.state ≠ .idle then s.refuse .busy
    else if s.channels[b].state ≠ .ready ∧ s.channels[b].state ≠ .recovering then s.refuse .channelState
    else
      let e := s.strikeEntry b (u8 p 1)
      if s.reservoir.lateLimit < e.earliest - s.stb ∨ Config.strikeQueueMax ≤ s.queue.length then s.refuse .busy
      else (s.place e).okWith (bigEndian 6 e.earliest ++ bigEndian 6 e.sound)

/-! ## Flight Monitor -/

/-- TEST_CHANNEL (R176, R177). -/
def doTestChannel (p : List Byte) (s : State) : Answer :=
  if ¬ u8 p 0 ≤ 63 then s.refuseParam 0
  else
    let b : Bell := Fin.ofNat 64 (u8 p 0)
    if s.engine.sourcePresent then s.refuse .held
    else if s.engine.state ≠ .idle ∨ s.monitor.test ≠ none then s.refuse .busy
    else
      match s.channels[b].state with
      | .absent => s.refuse .channelState
      | .firing | .recovering | .testing => s.refuse .busy
      | .disabled | .ready | .fault => { state := s.acceptTest b, status := .accepted, fields := [] }

/-! ## The Request Handler (R195) -/

/-- The owning block's answer to a request whose length is right. -/
def blockAnswer (k : ReqKind) (p : List Byte) (s : State) : Answer :=
  match k with
  | .status => doStatus p s
  | .restart => doRestart p s
  | .timeSet => doTimeSet p s
  | .timeGet => doTimeGet p s
  | .scoreBegin => doScoreBegin p s
  | .scoreData => doScoreData p s
  | .scoreEnd => doScoreEnd p s
  | .scoreErase => doScoreErase p s
  | .scoreInfo => doScoreInfo p s
  | .schedWrite => doSchedWrite p s
  | .schedRead => doSchedRead p s
  | .schedEnable => doSchedEnable p s
  | .schedClear => doSchedClear p s
  | .play => doPlay p s
  | .stop => doStop p s
  | .cueRead => doCueRead p s
  | .settingsWrite => doSettingsWrite p s
  | .settingsRead => doSettingsRead p s
  | .bellWrite => doBellWrite p s
  | .bellRead => doBellRead p s
  | .bellEnable => doBellEnable p s
  | .bellDisable => doBellDisable p s
  | .bellClearFault => doBellClearFault p s
  | .strike => doStrike p s
  | .testChannel => doTestChannel p s

/-- The Request Handler's answer to a good frame (R195): its KIND, then its length, then the owning block. -/
def answer (kind : Byte) (p : List Byte) (s : State) : Answer :=
  match ReqKind.ofCode kind with
  | none => s.refuse .badKind
  | some k => if lengthRight k p.length then blockAnswer k p s else s.refuse .badLength

/-- The reply's frame: the request's KIND plus 0x80 modulo 256, its TAG, and the payload (R189, R195). -/
def replyFrame (kind tag : Byte) (a : Answer) : Frame :=
  { kind := kind + 0x80, tag := tag, payload := a.payload }

/-- The Request Handler takes a good frame, settles it whole, and places its reply (R194, R195). -/
def State.handleRequest (s : State) (kind tag : Byte) (p : List Byte) : State :=
  let a := answer kind p s
  a.state.setLink { a.state.link with reply := some (replyFrame kind tag a) }

end Sys2Proof.Machine
end

