-- ==== Sys2Proof/Machine/Link.lean ====
section
/-! DEFINITION. The receive side of the Link Port: the frame assembler, the ends of frames and their handing on, the
receive FIFO, the gap deadline and the break (10_the_message_link.md, R186 to R195). -/

namespace Sys2Proof.Machine

/-! ## The frame assembler (R190, R191) -/

/-- The KIND byte, if it was taken. -/
def kindTaken (got : List RxByte) : Option Byte := (got[0]?).map RxByte.data

/-- The TAG byte, if it was taken. -/
def tagTaken (got : List RxByte) : Option Byte := (got[1]?).map RxByte.data

/-- The 8-bit sum of LEN, KIND, TAG, the payload and CHECK (R189). -/
def byteSum (bytes : List RxByte) : Byte := bytes.foldl (fun sum b => sum + b.data) 0

/-- The outcome of a frame whose CHECK byte has been taken (R191): the earliest mark, else the sum, else good. -/
def outcomeOf (len : RxByte) (got : List RxByte) : EndedFrame :=
  match (len :: got).find? RxByte.marked with
  | some b => .rejected b.reason (kindTaken got) (tagTaken got)
  | none =>
    if byteSum (len :: got) = 0 then
      .good ((kindTaken got).getD 0) ((tagTaken got).getD 0) (((got.drop 2).dropLast).map RxByte.data)
    else .rejected .check (kindTaken got) (tagTaken got)

/-- The assembler takes a byte (R190): its next state, and the frame that ended with it, if one did. -/
def Assembler.take (a : Assembler) (b : RxByte) : Assembler × Option EndedFrame :=
  match a with
  | .hunting => (if b.data = syncByte then .length else .hunting, none)
  | .length => if b.data.toNat ≤ 120 then (.body b [], none) else (.hunting, some (.rejected .length none none))
  | .body len got =>
    if (got ++ [b]).length < len.data.toNat + 3 then (.body len (got ++ [b]), none)
    else (.hunting, some (outcomeOf len (got ++ [b])))

/-- The assembler is collecting a frame. -/
def Assembler.collecting : Assembler → Bool
  | .hunting => false
  | .length | .body .. => true

/-- The frame being collected, ended for a reason: rejected with what of its KIND and TAG was taken (R192). -/
def Assembler.broken (a : Assembler) (reason : RejectReason) : EndedFrame :=
  match a with
  | .hunting | .length => .rejected reason none none
  | .body _ got => .rejected reason (kindTaken got) (tagTaken got)

/-! ## Handing frames on (R194) -/

/-- The REJECT frame of a rejected frame (R194). -/
def rejectFrame (reason : RejectReason) (kind tag : Option Byte) : Frame :=
  { kind := 0xFF, tag := tag.getD 0, payload := [rejectCode reason, kind.getD 0] }

/-- An ended frame is handed on: a good one is handled, a rejected one is answered with REJECT (R194). -/
def State.handOn (s : State) : EndedFrame → State
  | .good kind tag payload => s.handleRequest kind tag payload
  | .rejected reason kind tag => s.setLink { s.link with reply := some (rejectFrame reason kind tag) }

/-- A frame ends: the assembler returns to HUNTING with no gap deadline, and the frame is handed on if the reply buffer
is empty, else held (R190, R191, R194). -/
def State.endFrame (s : State) (f : EndedFrame) : State :=
  match s.link.reply with
  | none => (s.setLink { s.link with assembler := .hunting, gapDeadline := none }).handOn f
  | some _ => s.setLink { s.link with assembler := .hunting, gapDeadline := none, ended := some f }

/-! ## Taking bytes (R187, R190, R192) -/

/-- The assembler takes one byte; in a frame, the gap deadline moves on with it (R192). -/
def State.takeByte (s : State) (b : RxByte) : State :=
  match s.link.assembler.take b with
  | (_, some f) => s.endFrame f
  | (a, none) =>
    s.setLink
      { s.link with
        assembler := a
        gapDeadline := if a.collecting then some (s.stb + Config.gapTime) else none }

/-- Bytes leave the front of the FIFO for the assembler, at most `fuel` of them, until it holds a frame or the FIFO is
empty; HOLDO is released as the count falls to 16 (R187, R188, R194). -/
def State.drain : Nat → State → State
  | 0, s => s
  | fuel + 1, s =>
    match s.link.ended, s.link.fifo with
    | none, b :: rest =>
      drain fuel
        ((s.setLink { s.link with fifo := rest, holdo := holdAfterFall s.link.holdo rest.length }).takeByte b)
    | _, _ => s

/-- Every byte the assembler can take now is taken. -/
def State.drainFifo (s : State) : State := State.drain s.link.fifo.length s

/-- The newest byte of the FIFO gains an overrun mark (R187). -/
def markNewest : List RxByte → List RxByte
  | [] => []
  | [b] => [{ b with overrun := true }]
  | b :: c :: rest => b :: markNewest (c :: rest)

/-- A byte enters the FIFO, or, with 64 in it, is lost and marks the newest (R187, R188). -/
def State.enterFifo (s : State) (b : RxByte) : State :=
  if s.link.fifo.length < Config.fifoMax then
    s.setLink
      { s.link with
        fifo := s.link.fifo ++ [b], holdo := holdAfterRise s.link.holdo (s.link.fifo.length + 1) }
  else s.setLink { s.link with fifo := markNewest s.link.fifo }

/-- The gap deadline has passed in LENGTH or BODY, with no frame held (R192; log 9). -/
def State.gapPassed (s : State) : Bool :=
  s.link.assembler.collecting && s.link.ended.isNone
    && (match s.link.gapDeadline with
        | none => false
        | some d => decide (d < s.stb))

/-- The frame being collected ends, rejected TIMEOUT, if its gap deadline has passed (R192). -/
def State.expireGap (s : State) : State :=
  if s.gapPassed then s.endFrame (s.link.assembler.broken .timeout) else s

/-- A received character (R186, R187, R192): a frame whose gap deadline has passed has ended before it; then it enters
the FIFO, and the assembler takes what it can. -/
def State.receive (s : State) (b : RxByte) : State := ((s.expireGap).enterFifo b).drainFifo

/-! ## Requests as commands (log 5) -/

/-- The receive side holds nothing: HUNTING, no frame held, an empty FIFO, an empty reply buffer, and no break. -/
def Link.quiet (l : Link) : Bool :=
  decide (l.assembler = .hunting) && l.ended.isNone && l.fifo.isEmpty && l.reply.isNone && !l.inBreak

/-- A byte as the line carries it without damage. -/
def cleanByte (b : Byte) : RxByte := { data := b, parity := false, framing := false, overrun := false }

/-- A good frame arrives (R194, R195): with a quiet receive side the Request Handler takes it at once; else its bytes
arrive one by one behind what is there. During a break the receiver takes nothing (R193). -/
def State.receiveRequest (s : State) (kind tag : Byte) (payload : List Byte) : State :=
  if s.link.quiet then s.handleRequest kind tag payload
  else if s.link.inBreak then s
  else (frameBytes kind tag payload).foldl (fun u b => u.receive (cleanByte b)) s

/-! ## Damage and breaks -/

/-- The damaged frame that FRAME_REJECT ends (R191, R194; log 6): its bytes are those the assembler has collected and then
those the command gives, and its reason is that of the earliest mark collected, else the command's. No frame ends TIMEOUT
before its gap deadline (R192), nor LENGTH once LEN has been taken (R190). -/
def Assembler.damaged (a : Assembler) (reason : RejectReason) (kind tag : Option Byte) : Option EndedFrame :=
  match a with
  | .hunting => some (.rejected reason kind tag)
  | .length => if reason = .timeout then none else some (.rejected reason kind tag)
  | .body len got =>
    if reason = .timeout || reason = .length then none
    else
      let earliest := ((len :: got).find? RxByte.marked).map RxByte.reason
      some (.rejected (earliest.getD reason) ((kindTaken got).or kind) ((tagTaken got).or tag))

/-- FRAME_REJECT's effect (R191, R192, R194; logs 6 and 9): while the assembler holds a frame, and in a break, nothing. A
frame whose gap deadline has passed ends TIMEOUT first; a TIMEOUT commanded is that end, and any other reason ends a frame
that arrives after it. -/
def State.rejectArriving (s : State) (reason : RejectReason) (kind tag : Option Byte) : State :=
  if s.link.ended.isSome || s.link.inBreak then s
  else
    let u := s.expireGap
    if u.link.ended.isSome || (s.gapPassed && reason = .timeout) then u
    else
      match u.link.assembler.damaged reason kind tag with
      | some f => (u.endFrame f).drainFifo
      | none => u

/-- The first character time of a break delivers 0x00 with a framing mark (R193). -/
def breakByte : RxByte := { data := 0, parity := false, framing := true, overrun := false }

/-- A break's 22nd bit time is complete (R193; log 11): its first character has been received, and then the FIFO is
emptied, Hold released, the assembler cleared with any frame it held, and the receiver waits for mark. A frame whose gap
deadline has passed, its end not yet taken, takes no further byte (R192) and is discarded with no REJECT (R199). -/
def State.lineBreak (s : State) : State :=
  if s.link.inBreak then s
  else
    let s := if s.gapPassed then s else s.receive breakByte
    s.setLink
      { s.link with
        fifo := [], holdo := false, assembler := .hunting, ended := none, gapDeadline := none, inBreak := true }

end Sys2Proof.Machine
end

