-- ==== Sys2Proof/Machine/Start.lean ====
section
/-! DEFINITION. Stops and starts: what a stop does to the outputs, and the course of a cold or warm start
(11_retention_and_restart.md, R203 to R207, and each chapter's start values). -/

namespace Sys2Proof.Machine

/-! ## Stops (R203) -/

/-- An impact input while its filter is not running: an asserted one is to be seen clear before it can give an impact
(R185, R203). -/
def ImpactInput.idle : ImpactInput → ImpactInput
  | .clear => .clear
  | .filtering _ | .asserted => .asserted

/-- Operation stops (R203): gates off, Hold released, the transmitter at mark with its frame cut short, inputs unread,
an awaited restart given up (R205), and a start in progress abandoned (R204). What else is not retained stays as it was
until the next start gives it its start value (log 22). -/
def State.stopOperation (s : State) : State :=
  let s := s.setSupply { s.supply with operating := false, starting := none }
  let s := s.setChannels (s.channels.map fun c => { c with gate := false })
  let s := s.setLink { s.link with holdo := false, transmitter := .idle, restartPending := false }
  s.setMonitor { s.monitor with inputs := s.monitor.inputs.map ImpactInput.idle }

/-! ## Step 3 of a start: the retained blocks (R206) -/

/-- A slot after a warm start (R31). -/
def Slot.afterWarm (x : Slot) : Slot :=
  match x.state with
  | .loading => emptySlot
  | .empty | .ready => { x with refCount := 0 }

/-- A schedule entry after a warm start (R63). -/
def SchedEntry.afterWarm (e : SchedEntry) : SchedEntry := { e with latched := false }

/-- The calendar after a warm start (R46): as it was, and a second step that fell before the start, still to be taken, is
counted and not evaluated (R203, R206). -/
def Calendar.afterWarm (c : Calendar) : Calendar := if c.stepDue then c.step else c

/-- The changes of a warm start to the retained blocks (R13, R31, R46, R63, R98, R149, R163). -/
def State.warmRetained (s : State) : State :=
  let s := s.setScores { s.scores with slots := s.scores.slots.map Slot.afterWarm }
  (s.setSchedule (s.schedule.map fun e => e.map SchedEntry.afterWarm)).setCalendar s.calendar.afterWarm

/-- The cold values of the retained blocks (R13, R32, R46, R63, R98, R149, R163; the pool's bytes, log 18). -/
def State.coldRetained (s : State) : State :=
  let s := s.setScores { slots := Vector.replicate 32 emptySlot, mem := [] }
  let s := s.setSchedule (Vector.replicate 96 none)
  let s := s.setBells (Vector.replicate 64 coldBell)
  let s := s.setCalendar { time := firstSecond, valid := false, phase := 0, stepDue := false }
  let s := s.setEngine { s.engine with breathLimit := 8 }
  s.setReservoir { s.reservoir with lateLimit := 40, capacity := 1200, refillRate := 2 }

/-! ## Steps 4 and 5: the other blocks (R100, R125, R151, R163, R185, R200) -/

/-- The channel state a bell record gives (R13). -/
def BellRecord.startState (r : BellRecord) : ChannelState :=
  if !r.config.present then .absent
  else if !r.enabled then .disabled
  else if r.faultCause ≠ .none then .fault
  else .ready

/-- Cue List, engine and planner at a start (R100, R125). The next hold sets its own start; until then holdStart is 0
(log 14). -/
def State.restPerformance (s : State) : State :=
  let s := s.setCues { waiting := [], nextId := 1 }
  let s := s.setEngine
    { s.engine with state := .idle, current := none, held := none, holdStart := 0, settle := none }
  s.setPlanner
    { state := .idle, stint := none, stall := none, log := [], phrase := 0, shadow := Vector.replicate 64 0 }

/-- Strike Queue, channels, Striking Power's account and Flight Monitor at a start (R13, R151, R163, R185). -/
def State.restStriking (s : State) : State :=
  let s := s.setQueue []
  let s := s.setChannels (s.bells.map fun r => restChannel r.startState)
  let s := s.setReservoir { s.reservoir with charge := 0, testDraw := none }
  s.setMonitor
    { s.monitor with
      windows := Vector.replicate 64 none, inputs := s.monitor.inputs.map ImpactInput.idle, test := none }

/-- The Link Port at a start, with the straps read (R186, R200). The line's own break lasts until it returns to mark. -/
def State.restLink (s : State) (straps : BitVec 2) : State :=
  s.setLink
    { fifo := [], holdo := false, assembler := .hunting, ended := none, gapDeadline := none, reply := none
      transmitter := .idle, straps := straps, rate := rateOfStraps straps, inBreak := s.link.inBreak
      restartPending := false }

/-! ## Step 6: the lines (R100, R163) -/

/-- A debouncer at a start: the debounced level is the line's, with no change pending (R100, R163). -/
def Debouncer.asRead (d : Debouncer) : Debouncer := { d with level := d.line, since := none }

/-- The supply lines and ILOCK are read; the rail level and the hold sources follow (R100, R157, R163). -/
def State.readLines (s : State) : State :=
  let r := { s.reservoir with low := s.reservoir.low.asRead, failing := s.reservoir.failing.asRead }
  let s := s.setReservoir { r with rail := r.derivedLevel }
  s.setEngine
    { s.engine with
      ilock := s.engine.ilock.asRead, interlock := s.engine.ilock.line, fail := decide (s.reservoir.rail = .fail) }

/-! ## Steps 7 and 8 -/

/-- START is queued first; with a hold source present the engine enters HELD and HOLD entering stands behind it (R100,
R206, R207). -/
def State.announceStart (s : State) (cause : StartCause) : State :=
  let s := s.setNotices { waiting := [.start cause], overflow := false }
  if s.engine.sourcePresent then
    (s.setEngineState .held).raise (.hold true s.engine.interlock s.engine.fail)
  else s

/-- A start's work before operation, steps 1 to 7 (R206): the kind decided; the retained blocks, after which the latch is
clear; the others; the lines; the notices. The STB is at 0 throughout. -/
def State.prepareStart (s : State) (cause : StartCause) (straps : BitVec 2) : State :=
  let s := if cause = .cold then s.coldRetained else s.warmRetained
  let s := s.setSupply
    { s.supply with operating := false, starting := some straps, retentionLost := false, startCause := cause }
  let s := ((s.setStb 0).setRefillDue false).restPerformance
  ((s.restStriking.restLink straps).readLines).announceStart cause

/-- A whole start (R206): its work, and operation at STB 0, with the transmitter beginning to send START at once. -/
def State.startSequence (s : State) (cause : StartCause) (straps : BitVec 2) : State :=
  let s := s.prepareStart cause straps
  (s.setSupply { s.supply with operating := true, starting := none }).choose

/-- A start begins: its kind is decided and its cause recorded (R204); the latch is not yet cleared and nothing operates
(R203, R206; log 15). -/
def State.beginStart (s : State) (cause : StartCause) (straps : BitVec 2) : State :=
  let s := s.stopOperation
  s.setSupply { s.supply with starting := some straps, startCause := cause }

/-- A start, as far as it gets before the next command (R204; log 15). -/
def State.start (s : State) (cause : StartCause) (i : StartInputs) : State :=
  match i.reach with
  | .completed => s.startSequence cause i.straps
  | .begun => s.beginStart cause i.straps
  | .prepared => s.prepareStart cause i.straps

/-- The kind of a power-on or reset-pin start, decided by the retention-lost latch (R204). -/
def State.powerCause (s : State) : StartCause := if s.supply.retentionLost then .cold else .warm

/-- The latch follows the retained domain's supply: it is set while that is VBAK, main power being absent, and VBAK is
below 1.8 V (R202). -/
def Supply.watchRetention (x : Supply) : Supply :=
  { x with retentionLost := x.retentionLost || (!x.mainInRange && x.vbakLow) }

/-! ## Ends of transmitted frames (R196, R205) -/

/-- The transmitter sends a frame of the reply buffer. -/
def State.sendingReply (s : State) : Bool :=
  match s.link.transmitter with
  | .sending _ isReply _ => isReply
  | .idle => false

/-- The last byte of a frame has been sent (R196): the transmitter is IDLE; after a reply the buffer is empty, and a
frame the assembler holds is handed on and the FIFO drained (R194). -/
def State.frameSent (s : State) : State :=
  if s.sendingReply then
    let s := s.setLink { s.link with transmitter := .idle, reply := none }
    match s.link.ended with
    | some f => ((s.setLink { s.link with ended := none }).handOn f).drainFifo
    | none => s.drainFifo
  else s.setLink { s.link with transmitter := .idle }

/-- The reply being sent is that of an accepted RESTART (R205). -/
def State.restartReady (s : State) : Bool := s.sendingReply && s.link.restartPending

end Sys2Proof.Machine
end

