-- ==== Sys2Proof/Machine/Due.lean ====
section
/-! DEFINITION. The moments: when each row that the part takes by itself is due, and the passing of a millisecond
(00_scope.md, Conventions; log 1). -/

namespace Sys2Proof.Machine

/-! ## Cues and the engine -/

/-- The performance that completes: DRAINING with no entry of its left in the Strike Queue (R78). -/
def State.completing (s : State) : Option Performance :=
  match s.engine.state, s.engine.current with
  | .draining, some p => if s.hasEntries p.cue.id then none else some p
  | _, _ => none

/-- The performance whose suspension completes, with its yield point: YIELDING, no entry left (R84). -/
def State.suspending (s : State) : Option (Performance × LogContext) :=
  match s.engine.state, s.engine.current with
  | .yielding, some p =>
    match p.yield with
    | some { point := some c, .. } => if s.hasEntries p.cue.id then none else some (p, c)
    | _ => none
  | _, _ => none

/-- The performance whose yield is cut: YIELDING with no yield point, and the deadline reached (R85). -/
def State.cutting (s : State) : Option Performance :=
  match s.engine.state, s.engine.current with
  | .yielding, some p =>
    match p.yield with
    | some { deadline := deadline, point := none, .. } => if deadline ≤ s.stb then some p else none
    | _ => none
  | _, _ => none

/-- The origin of a performance in STARTING is reached (R76). -/
def State.originReached (s : State) : Bool :=
  match s.engine.state, s.engine.current with
  | .starting, some p => decide (p.origin ≤ s.stb)
  | _, _ => false

/-- The settle's deadline is reached (R91). -/
def State.settled (s : State) : Bool :=
  match s.engine.state, s.engine.settle with
  | .held, some d => decide (d ≤ s.stb)
  | _, _ => false

/-- The held performance whose wait has run out (R92). -/
def State.heldExpiring (s : State) : Option HeldPerformance :=
  match s.engine.state, s.engine.held with
  | .held, some h => if waitOver h.cue.maxWait s.engine.holdStart s.stb then some h else none
  | _, _ => none

/-- The listed cue of an id, its wait run out (R69). -/
def State.expiring (s : State) (cueId : Nat) : Option Cue :=
  match s.listed cueId with
  | some c => if waitOver c.maxWait c.entryTime s.stb then some c else none
  | none => none

/-! ## The planner -/

/-- A context of a stint's breath log is overtaken (R112). -/
def State.contextDue (s : State) : Bool := decide (s.planner.state ≠ .idle) && retirable s.stb s.planner.log

/-- The planner is PLANNING and the next item lies within the horizon (R104). -/
def State.itemDue (s : State) : Bool := decide (s.planner.state = .planning) && s.itemInHorizon

/-- The planner is STALLED and the stall's cause is cleared (R113, R118). -/
def State.resumeDue (s : State) : Bool := decide (s.planner.state = .stalled) && s.stallCleared

/-! ## Channels -/

/-- The pulse end that a FIRING channel has reached (R136). -/
def State.pulseEnding (s : State) (b : Bell) : Option Stb :=
  match s.channels[b].state, s.channels[b].pulseEnd with
  | .firing, some p => if p ≤ s.stb then some p else none
  | _, _ => none

/-- A RECOVERING channel has reached its recovery end (R137). -/
def State.recovered (s : State) (b : Bell) : Bool :=
  decide (s.channels[b].state = .recovering ∧ s.channels[b].recoveryEnd ≤ s.stb)

/-! ## Lines and impacts -/

/-- The leading edge of an input asserted for its 1 ms, so that the impact is recognised (R164; log 24). -/
def State.recognising (s : State) (b : Bell) : Option Nat :=
  match s.monitor.inputs[b] with
  | .filtering edge => if edge / 16 + 1 ≤ s.stb then some edge else none
  | _ => none

/-- The window that has reached its close time (R168). -/
def State.closingWindow (s : State) (b : Bell) : Option Window :=
  match s.monitor.windows[b] with
  | some w => if w.closeTime ≤ s.stb then some w else none
  | none => none

/-! ## The channel test -/

/-- The test whose draw is granted: WAITING, with the charge for it, and the channel's recovery end passed (R147, R155,
R178). -/
def State.testStarting (s : State) : Option ChannelTest :=
  match s.monitor.test with
  | some t =>
    if t.phase = .waiting ∧ s.reservoir.testDraw.isSome = true ∧ t.cost ≤ s.reservoir.charge
        ∧ s.channels[t.bell].recoveryEnd ≤ s.stb then some t
    else none
  | none => none

/-- The test whose wait deadline is reached in WAITING (R178). -/
def State.testExpiring (s : State) : Option ChannelTest :=
  match s.monitor.test with
  | some t => if t.phase = .waiting ∧ t.deadline ≤ s.stb then some t else none
  | none => none

/-- The test whose pulse has reached its end, with that end (R179). -/
def State.testPulseEnding (s : State) : Option (ChannelTest × Stb) :=
  match s.monitor.test with
  | some t =>
    match t.phase, t.pulseEnd with
    | .pulse, some p => if p ≤ s.stb then some (t, p) else none
    | _, _ => none
  | none => none

/-- The test whose window closes in LISTENING (R180). -/
def State.testWindowClosing (s : State) : Option ChannelTest :=
  match s.monitor.test with
  | some t => if t.phase = .listening ∧ s.testWindowEnd t ≤ s.stb then some t else none
  | none => none

/-- The SETTLED test whose channel's recovery end is reached (R181). -/
def State.testEnding (s : State) : Option ChannelTest :=
  match s.monitor.test with
  | some t => if t.phase = .settled ∧ s.channels[t.bell].recoveryEnd ≤ s.stb then some t else none
  | none => none

/-! ## The link -/

/-- The transmitter has sent every bit of its frame (R196; log 10). -/
def State.sent (s : State) : Bool :=
  match s.link.transmitter with
  | .sending _ _ left => decide (left = 0)
  | .idle => false

/-- The transmitter is IDLE and something waits (R196). -/
def State.choiceWaits (s : State) : Bool :=
  match s.link.transmitter with
  | .sending .. => false
  | .idle => s.link.reply.isSome || !s.notices.waiting.isEmpty

/-- An operating part's transmitter is to choose what to send (R196; log 28). -/
def State.mustChoose (s : State) : Bool := s.supply.operating && s.choiceWaits

/-! ## The next row that is due -/

/-- A command, when its condition holds. -/
def dueIf (condition : Bool) (c : Instr) : Option Instr := if condition then some c else none

/-- The first bell that a condition holds of, as a command. -/
def firstBell (condition : Bell → Bool) (c : Bell → Instr) : Option Instr :=
  ((List.finRange 64).find? condition).map c

/-- RESTART_TAKES_EFFECT as the part takes it by itself: its pins as they were (log 21, log 32). -/
def State.restartRow (s : State) : Instr :=
  .restartTakesEffect { straps := s.link.straps, vbakLow := s.supply.vbakLow, reach := .completed }

/-- The rows of the engine and the supply that are due, in the model's order (log 1). -/
def State.dueEngine (s : State) : List (Option Instr) :=
  [dueIf s.completing.isSome .performanceComplete, dueIf s.suspending.isSome .suspensionComplete,
   dueIf s.refillDue .refillStep, dueIf (s.engine.ilock.complete s.stb) .interlockDebounced,
   dueIf (s.reservoir.low.complete s.stb) (.railDebounced .low),
   dueIf (s.reservoir.failing.complete s.stb) (.railDebounced .failing),
   dueIf (s.sent && s.restartReady) s.restartRow, dueIf s.sent .transmitFrameEnd,
   dueIf s.gapPassed .gapTimeout]

/-- The moment of recognition of a bell's impact has come, and lies this many sixteenths behind the whole millisecond
(R164). -/
def State.recognisingAt (s : State) (sixteenth : Nat) (b : Bell) : Bool :=
  match s.recognising b with
  | some edge => decide (edge % 16 = sixteenth)
  | none => false

/-- The rows of the channels and the monitor that are due at the whole millisecond. -/
def State.dueStriking (s : State) : List (Option Instr) :=
  [firstBell (fun b => (s.pulseEnding b).isSome) .pulseEnd, firstBell s.recovered .recoveryEnd,
   firstBell (s.recognisingAt 0) .impactRecognised,
   firstBell (fun b => (s.closingWindow b).isSome) .windowClose, dueIf s.testPulseEnding.isSome .testPulseEnd,
   dueIf s.testWindowClosing.isSome .testWindowClose, dueIf s.testStarting.isSome .testPulseStart,
   dueIf s.testExpiring.isSome .testWaitDeadline, dueIf s.testEnding.isSome .testEnd,
   dueIf s.lateEntry.isSome .lateDrop, dueIf s.firingEntry.isSome .entryFire]

/-- The rows of the performance, the planner and the calendar that are due. -/
def State.duePerformance (s : State) : List (Option Instr) :=
  [dueIf s.cutting.isSome .yieldCut, dueIf s.originReached .stintOrigin, dueIf s.settled .settleEnd,
   dueIf s.heldExpiring.isSome .heldExpiry,
   (s.cues.waiting.find? fun c => (s.expiring c.id).isSome).map fun c => .cueExpiry (byteOf c.id),
   dueIf s.contextDue .contextRetire, dueIf s.resumeDue .plannerResume, dueIf s.itemDue .plannerTake,
   dueIf s.calendar.stepDue .secondStep]

/-- The impacts recognised inside the millisecond, behind everything that is due at its beginning, earliest first (R164;
log 24). -/
def State.dueInside (s : State) : List (Option Instr) :=
  (List.range 15).map fun k => firstBell (s.recognisingAt (k + 1)) .impactRecognised

/-- The first command of a list of possible ones. -/
def firstDue (l : List (Option Instr)) : Option Instr := l.findSome? id

/-- The row that the part takes next by itself; none when nothing of this millisecond is left (log 1). A stopped part
takes second steps alone (R203). -/
def State.nextDue (s : State) : Option Instr :=
  if s.supply.operating then firstDue (s.dueEngine ++ s.dueStriking ++ s.duePerformance ++ s.dueInside)
  else dueIf s.calendar.stepDue .secondStep

/-! ## A millisecond -/

/-- The transmitter after a millisecond at a rate in baud (R196; log 10). -/
def Transmitter.millisecond (t : Transmitter) (rate : Nat) : Transmitter :=
  match t with
  | .idle => .idle
  | .sending f isReply left => .sending f isReply (left - rate)

/-- A millisecond passes (00_scope.md, Strike time base; R36): the calendar oscillator counts it always; in operation the
STB rises, the transmitter sends on, and a refill step falls due. -/
def State.tick (s : State) : State :=
  let s := s.setCalendar s.calendar.millisecond
  if s.supply.operating then
    ((s.setStb (s.stb + 1)).setRefillDue true).setLink
      { s.link with transmitter := s.link.transmitter.millisecond s.link.rate }
  else s

/-- With nothing left to take in a millisecond, a start that has begun is carried through (R204; log 15); else the next
millisecond comes. -/
def State.pass (s : State) : State :=
  match s.supply.operating, s.supply.starting with
  | false, some straps => s.startSequence s.supply.startCause straps
  | _, _ => s.tick

end Sys2Proof.Machine
end

