-- ==== Sys2Proof/Machine/DispatchCommands.lean ====
section
/-! DEFINITION. The meanings of the rows of the Channel Dispatcher and Striking Power (07, 08). -/

namespace Sys2Proof.Machine

/-! ## The Channel Dispatcher -/

/-- ENTRY_FIRE (R133 to R135): the due entry whose draw is granted fires. -/
def execEntryFire (s : State) : Out :=
  whenOperating s fun u =>
    match u.firingEntry with
    | some e => u.fire e
    | none => u

/-- LATE_DROP (R132): the due entry past the late limit leaves. -/
def execLateDrop (s : State) : Out :=
  whenOperating s fun u =>
    match u.lateEntry with
    | some e => u.dropLate e
    | none => u

/-- PULSE_END (R136). -/
def execPulseEnd (bell : Bell) (s : State) : Out :=
  whenOperating s fun u =>
    match u.pulseEnding bell with
    | some p => u.endPulse bell p
    | none => u

/-- RECOVERY_END (R137): a RECOVERING channel enters READY. -/
def execRecoveryEnd (bell : Bell) (s : State) : Out :=
  whenOperating s fun u =>
    if u.recovered bell then u.setChannel bell { u.channels[bell] with state := .ready } else u

/-! ## Striking Power -/

/-- REFILL_STEP (R153; log 2): the present millisecond's refill step, if it is still to be taken; else, with nothing due,
the next millisecond with its refill step. -/
def execRefillStep (s : State) : Out :=
  whenOperating s fun u =>
    if u.refillDue then u.refill else if u.nextDue.isNone && !u.choiceWaits then u.tick.refill else u

/-- RAIL_LINE_CHANGE (R156): a supply line takes a level; a stopped part does not read it (R203). -/
def execRailLineChange (line : RailLine) (asserted : Bool) (s : State) : Out :=
  atAnyTime s fun u =>
    let d := u.reservoir.debouncer line
    u.setReservoir
      (u.reservoir.setDebouncer line
        (if u.supply.operating then d.lineChange asserted u.stb else { d with line := asserted }))

/-- RAIL_DEBOUNCED (R156 to R159). -/
def execRailDebounced (line : RailLine) (s : State) : Out :=
  whenOperating s fun u => if (u.reservoir.debouncer line).complete u.stb then u.settleRail line else u

end Sys2Proof.Machine
end

