-- ==== Sys2Proof/Machine/EngineCommands.lean ====
section
/-! DEFINITION. The meanings of the rows of the Calendar Clock, the Cue List, the Performance Engine and the Strike
Planner (03, 05, 06). -/

namespace Sys2Proof.Machine

/-! ## The calendar -/

/-- SECOND_STEP (R36, R38): the phase has run its 1000 ms, and the calendar advances; an operating part with a valid
calendar evaluates the new second. The oscillator counts while the part is stopped too (R203; log 8). With no step due,
as when a TIME_SET has restarted the phase (R43), nothing happens (log 3). -/
def execSecondStep (s : State) : Out :=
  atAnyTime s fun u => if u.calendar.stepDue then u.stepSecond else u

/-! ## Cues -/

/-- CUE_EXPIRY (R69): the listed cue whose wait has run out leaves the list and ends EXPIRED. -/
def execCueExpiry (cueId : Byte) (s : State) : Out :=
  whenOperating s fun u =>
    match u.expiring cueId.toNat with
    | some c => (u.unlist cueId.toNat).endCue c .expired
    | none => u

/-- HELD_EXPIRY (R92): the held performance is cleared and its cue ends EXPIRED. -/
def execHeldExpiry (s : State) : Out :=
  whenOperating s fun u =>
    match u.heldExpiring with
    | some h => (u.setEngine { u.engine with held := none }).endCue h.cue .expired
    | none => u

/-! ## The performance -/

/-- STINT_ORIGIN (R76): STARTING gives way to PLAYING, or to DRAINING with nothing left to plan (R77). -/
def execStintOrigin (s : State) : Out :=
  whenOperating s fun u =>
    if u.originReached then u.setEngineState (if u.planner.state = .done then .draining else .playing) else u

/-- YIELD_CUT (R85): the performance's entries leave uncounted, the planner stops, and the suspension completes at the
fallback context. -/
def execYieldCut (s : State) : Out :=
  whenOperating s fun u =>
    match u.cutting with
    | some p => ((u.flush fun e => e.ofCue p.cue.id).plannerStop).completeSuspension p u.fallback
    | none => u

/-- SUSPENSION_COMPLETE (R84, R86): the suspension completes at the yield point. -/
def execSuspensionComplete (s : State) : Out :=
  whenOperating s fun u =>
    match u.suspending with
    | some (p, point) => u.completeSuspension p point.context
    | none => u

/-- PERFORMANCE_COMPLETE (R78). -/
def execPerformanceComplete (s : State) : Out :=
  whenOperating s fun u =>
    match u.completing with
    | some p => u.completePerformance p
    | none => u

/-! ## Holds -/

/-- ILOCK_LINE_CHANGE (R88): the line takes a level and its debounce starts or is abandoned; a stopped part does not read
it (R203). -/
def execIlockLineChange (asserted : Bool) (s : State) : Out :=
  atAnyTime s fun u =>
    u.setEngine
      { u.engine with
        ilock :=
          if u.supply.operating then u.engine.ilock.lineChange asserted u.stb
          else { u.engine.ilock with line := asserted } }

/-- INTERLOCK_DEBOUNCED (R88): the new level has been held 50 ms. -/
def execInterlockDebounced (s : State) : Out :=
  whenOperating s fun u => if u.engine.ilock.complete u.stb then u.settleInterlock else u

/-- SETTLE_END (R91). -/
def execSettleEnd (s : State) : Out :=
  whenOperating s fun u => if u.settled then u.leaveHold else u

/-! ## The planner -/

/-- PLANNER_TAKE (R104): everything now within the horizon is taken. -/
def execPlannerTake (s : State) : Out :=
  whenOperating s fun u => if u.itemDue then u.takeDue else u

/-- PLANNER_RESUME (R113, R118). -/
def execPlannerResume (s : State) : Out :=
  whenOperating s fun u => if u.resumeDue then u.resumePlanning else u

/-- CONTEXT_RETIRE (R112). -/
def execContextRetire (s : State) : Out :=
  whenOperating s fun u => if u.contextDue then u.retireContexts else u

end Sys2Proof.Machine
end

