-- ==== Sys2Proof/Machine/LinkCommands.lean ====
section
/-! DEFINITION. The meanings of the Link Port's rows (10_the_message_link.md). -/

namespace Sys2Proof.Machine

/-- FRAME_REJECT (R191, R192, R194; logs 6 and 9): a damaged frame ends. -/
def execFrameReject (reason : RejectReason) (kind tag : Option Byte) (s : State) : Out :=
  whenOperating s fun u => u.rejectArriving reason kind tag

/-- BYTE_RECEIVED (R186, R187): a character enters the FIFO with its marks; during a break none does (R193). -/
def execByteReceived (data : Byte) (parityBit stopBit : Bool) (s : State) : Out :=
  whenOperating s fun u => if u.link.inBreak then u else u.receive (receivedByte data parityBit stopBit)

/-- GAP_TIMEOUT (R192): the frame being collected ends, its gap deadline passed. -/
def execGapTimeout (s : State) : Out :=
  whenOperating s State.expireGap

/-- LINE_BREAK (R193). -/
def execLineBreak (s : State) : Out :=
  whenOperating s State.lineBreak

/-- LINE_RETURN_TO_MARK (R193): the receiver takes characters again. The line may return while the part is stopped. -/
def execLineReturnToMark (s : State) : Out :=
  atAnyTime s fun u => u.setLink { u.link with inBreak := false }

/-- TRANSMIT_FRAME_END (R196; log 10): the frame being sent has been sent. The end of the RESTART reply is the restart
itself (R205; log 21). -/
def execTransmitFrameEnd (s : State) : Out :=
  if s.supply.operating && s.restartReady then .next (s.startSequence .restart s.link.straps)
  else whenOperating s State.frameSent

end Sys2Proof.Machine
end

