-- ==== Sys2Proof/Machine/MonitorCommands.lean ====
section
/-! DEFINITION. The meanings of the Flight Monitor's rows: impacts, windows and the channel test (09). -/

namespace Sys2Proof.Machine

/-! ## Impacts -/

/-- IMPACT_INPUT_ASSERT (R164): a clear input is asserted, and its 1 ms runs from this leading edge. A stopped part does
not read it: the input then has to be seen clear first (R185, R203). -/
def execImpactInputAssert (bell : Bell) (sixteenth : Fin 16) (s : State) : Out :=
  atAnyTime s fun u =>
    match u.monitor.inputs[bell] with
    | .clear => u.setInput bell (if u.supply.operating then .filtering (16 * u.stb + sixteenth.val) else .asserted)
    | .filtering _ | .asserted => u

/-- IMPACT_INPUT_CLEAR (R164): the input is clear; a filter still running gives no impact. A return to clear at the very
moment the 1 ms completes: DESIGN CHOICE (log 31), taken first it gives no impact. -/
def execImpactInputClear (bell : Bell) (s : State) : Out :=
  atAnyTime s fun u => u.setInput bell .clear

/-- A recognised impact goes where the first row that applies sends it (R165): nowhere while INTERLOCK holds or to an
ABSENT channel; to the test of a TESTING one; to the open window; else it is a stray. -/
def State.routeImpact (s : State) (b : Bell) (edge : Nat) : State :=
  if s.engine.interlock then s
  else if s.channels[b].state = .absent then s
  else if s.channels[b].state = .testing then s.testImpact b edge
  else
    match s.monitor.windows[b] with
    | some w => s.windowImpact b w edge
    | none => s.stray b

/-- IMPACT_RECOGNISED (R164, R165): the input has been asserted for 1 ms; it gives no further impact until it is clear. -/
def execImpactRecognised (bell : Bell) (s : State) : Out :=
  whenOperating s fun u =>
    match u.recognising bell with
    | some edge => (u.setInput bell .asserted).routeImpact bell edge
    | none => u

/-- A window closes at its close time: as a miss if it is still AWAITING (R168, R171). -/
def State.closeWindow (s : State) (b : Bell) (w : Window) : State :=
  if w.answered then s.setWindow b none else (s.setWindow b none).miss b

/-- WINDOW_CLOSE (R168). -/
def execWindowClose (bell : Bell) (s : State) : Out :=
  whenOperating s fun u =>
    match u.closingWindow bell with
    | some w => u.closeWindow bell w
    | none => u

/-! ## The channel test -/

/-- TEST_PULSE_START (R147, R155, R178). -/
def execTestPulseStart (s : State) : Out :=
  whenOperating s fun u =>
    match u.testStarting with
    | some t => u.startTestPulse t
    | none => u

/-- TEST_WAIT_DEADLINE (R178). -/
def execTestWaitDeadline (s : State) : Out :=
  whenOperating s fun u =>
    match u.testExpiring with
    | some t => u.expireTest t
    | none => u

/-- Minimum current is seen, if a test pulse runs (R179). -/
def State.seeMinimum (s : State) : State :=
  match s.monitor.test with
  | some t => if t.phase = .pulse then s.setTest (some { t with minSeen := true }) else s
  | none => s

/-- An over-current cuts the test pulse, if one runs (R179). -/
def State.seeOverCurrent (s : State) : State :=
  match s.monitor.test with
  | some t => if t.phase = .pulse then s.shortTest t else s
  | none => s

/-- ISMIN_ASSERT (R179; log 12): the line takes a level; asserted in PULSE it marks minimum current as seen. -/
def execIsminAssert (asserted : Bool) (s : State) : Out :=
  atAnyTime s fun u =>
    let u := u.setMonitor { u.monitor with ismin := asserted }
    if u.supply.operating && asserted then u.seeMinimum else u

/-- ISOVR_ASSERT (R179; log 12): the line takes a level; asserted in PULSE it cuts the pulse, SHORT. -/
def execIsovrAssert (asserted : Bool) (s : State) : Out :=
  atAnyTime s fun u =>
    let u := u.setMonitor { u.monitor with isovr := asserted }
    if u.supply.operating && asserted then u.seeOverCurrent else u

/-- TEST_PULSE_END (R179). -/
def execTestPulseEnd (s : State) : Out :=
  whenOperating s fun u =>
    match u.testPulseEnding with
    | some (t, pulseEnd) => u.finishTestPulse t pulseEnd
    | none => u

/-- TEST_WINDOW_CLOSE (R180). -/
def execTestWindowClose (s : State) : Out :=
  whenOperating s fun u =>
    match u.testWindowClosing with
    | some t => u.closeTestWindow t
    | none => u

/-- TEST_END (R181). -/
def execTestEnd (s : State) : Out :=
  whenOperating s fun u =>
    match u.testEnding with
    | some t => u.endTest t
    | none => u

end Sys2Proof.Machine
end

