-- ==== Sys2Proof/Machine/RequestCommands.lean ====
section
/-! DEFINITION. The meanings of the request rows: a good frame of the kind reaches the part (R194, R195; log 5), whose
Request Handler answers it as Requests.lean says. -/

namespace Sys2Proof.Machine

/-- A good frame of a kind arrives while the part operates (R194, R195; log 5). -/
def requestArrives (kind tag : Byte) (payload : List Byte) (s : State) : Out :=
  whenOperating s fun u => u.receiveRequest kind tag payload

/-- STATUS (R198): see doStatus. -/
def execStatus (tag : Byte) (payload : List Byte) (s : State) : Out :=
  requestArrives ReqKind.status.code tag payload s

/-- RESTART (R205): see doRestart. -/
def execRestart (tag : Byte) (payload : List Byte) (s : State) : Out :=
  requestArrives ReqKind.restart.code tag payload s

/-- TIME_SET (R39 to R42): see doTimeSet. -/
def execTimeSet (tag : Byte) (payload : List Byte) (s : State) : Out :=
  requestArrives ReqKind.timeSet.code tag payload s

/-- TIME_GET (R44): see doTimeGet. -/
def execTimeGet (tag : Byte) (payload : List Byte) (s : State) : Out :=
  requestArrives ReqKind.timeGet.code tag payload s

/-- SCORE_BEGIN (R22, R23): see doScoreBegin. -/
def execScoreBegin (tag : Byte) (payload : List Byte) (s : State) : Out :=
  requestArrives ReqKind.scoreBegin.code tag payload s

/-- SCORE_DATA (R24): see doScoreData. -/
def execScoreData (tag : Byte) (payload : List Byte) (s : State) : Out :=
  requestArrives ReqKind.scoreData.code tag payload s

/-- SCORE_END (R25): see doScoreEnd. -/
def execScoreEnd (tag : Byte) (payload : List Byte) (s : State) : Out :=
  requestArrives ReqKind.scoreEnd.code tag payload s

/-- SCORE_ERASE (R26): see doScoreErase. -/
def execScoreErase (tag : Byte) (payload : List Byte) (s : State) : Out :=
  requestArrives ReqKind.scoreErase.code tag payload s

/-- SCORE_INFO (R27): see doScoreInfo. -/
def execScoreInfo (tag : Byte) (payload : List Byte) (s : State) : Out :=
  requestArrives ReqKind.scoreInfo.code tag payload s

/-- SCHED_WRITE (R57, R58): see doSchedWrite. -/
def execSchedWrite (tag : Byte) (payload : List Byte) (s : State) : Out :=
  requestArrives ReqKind.schedWrite.code tag payload s

/-- SCHED_READ (R59): see doSchedRead. -/
def execSchedRead (tag : Byte) (payload : List Byte) (s : State) : Out :=
  requestArrives ReqKind.schedRead.code tag payload s

/-- SCHED_ENABLE (R60): see doSchedEnable. -/
def execSchedEnable (tag : Byte) (payload : List Byte) (s : State) : Out :=
  requestArrives ReqKind.schedEnable.code tag payload s

/-- SCHED_CLEAR (R61): see doSchedClear. -/
def execSchedClear (tag : Byte) (payload : List Byte) (s : State) : Out :=
  requestArrives ReqKind.schedClear.code tag payload s

/-- PLAY (R71): see doPlay. -/
def execPlay (tag : Byte) (payload : List Byte) (s : State) : Out :=
  requestArrives ReqKind.play.code tag payload s

/-- STOP (R93): see doStop. -/
def execStop (tag : Byte) (payload : List Byte) (s : State) : Out :=
  requestArrives ReqKind.stop.code tag payload s

/-- CUE_READ (R72): see doCueRead. -/
def execCueRead (tag : Byte) (payload : List Byte) (s : State) : Out :=
  requestArrives ReqKind.cueRead.code tag payload s

/-- SETTINGS_WRITE (R98, R149, R160): see doSettingsWrite. -/
def execSettingsWrite (tag : Byte) (payload : List Byte) (s : State) : Out :=
  requestArrives ReqKind.settingsWrite.code tag payload s

/-- SETTINGS_READ (R98, R161): see doSettingsRead. -/
def execSettingsRead (tag : Byte) (payload : List Byte) (s : State) : Out :=
  requestArrives ReqKind.settingsRead.code tag payload s

/-- BELL_WRITE (R8 to R10): see doBellWrite. -/
def execBellWrite (tag : Byte) (payload : List Byte) (s : State) : Out :=
  requestArrives ReqKind.bellWrite.code tag payload s

/-- BELL_READ (R12): see doBellRead. -/
def execBellRead (tag : Byte) (payload : List Byte) (s : State) : Out :=
  requestArrives ReqKind.bellRead.code tag payload s

/-- BELL_ENABLE (R142): see doBellEnable. -/
def execBellEnable (tag : Byte) (payload : List Byte) (s : State) : Out :=
  requestArrives ReqKind.bellEnable.code tag payload s

/-- BELL_DISABLE (R143): see doBellDisable. -/
def execBellDisable (tag : Byte) (payload : List Byte) (s : State) : Out :=
  requestArrives ReqKind.bellDisable.code tag payload s

/-- BELL_CLEAR_FAULT (R145): see doBellClearFault. -/
def execBellClearFault (tag : Byte) (payload : List Byte) (s : State) : Out :=
  requestArrives ReqKind.bellClearFault.code tag payload s

/-- STRIKE (R148): see doStrike. -/
def execStrike (tag : Byte) (payload : List Byte) (s : State) : Out :=
  requestArrives ReqKind.strike.code tag payload s

/-- TEST_CHANNEL (R176, R177): see doTestChannel. -/
def execTestChannel (tag : Byte) (payload : List Byte) (s : State) : Out :=
  requestArrives ReqKind.testChannel.code tag payload s

/-- BAD_KIND_REQUEST (R195): a good frame whose KIND names no request is answered BAD_KIND and changes nothing else. -/
def execBadKindRequest (kind tag : Byte) (payload : List Byte) (s : State) : Out :=
  requestArrives kind tag payload s

end Sys2Proof.Machine
end

