-- ==== Sys2Proof/Machine/SupplyCommands.lean ====
section
/-! DEFINITION. The meanings of the Retention Monitor's rows: supplies, stops and starts (11). -/

namespace Sys2Proof.Machine

/-- MAIN_POWER_FAIL (R202, R203): the main supply falls below its range, and operation stops; a VBAK already below 1.8 V
then sets the latch. -/
def execMainPowerFail (s : State) : Out :=
  let u := s.stopOperation
  .next (u.setSupply (Supply.watchRetention { u.supply with mainInRange := false }))

/-- RSTN_LOW (R203): RSTN is driven low, and operation stops. -/
def execRstnLow (s : State) : Out :=
  let u := s.stopOperation
  .next (u.setSupply { u.supply with rstnHigh := false })

/-- VBAK_LOW (R202): the backup supply falls below 1.8 V; with main power absent the latch is set, and with main power
present nothing shows until it is next lost (log 32). -/
def execVbakLow (s : State) : Out :=
  .next (s.setSupply (Supply.watchRetention { s.supply with vbakLow := true }))

/-- POWER_ON_START (R203, R204): main power returns; with RSTN high the part starts, else the start is left to RSTN
(log 16). With main power already present nothing returns. -/
def execPowerOnStart (start : StartInputs) (s : State) : Out :=
  .next
    (if s.supply.mainInRange then s
     else
       let u := s.setSupply { s.supply with mainInRange := true, vbakLow := start.vbakLow }
       if u.supply.rstnHigh then u.start u.powerCause start else u)

/-- RESET_PIN_START (R203, R204): RSTN returns high; with main power in range the part starts, else the start is left to
main power's return (log 16). With RSTN already high nothing returns. -/
def execResetPinStart (start : StartInputs) (s : State) : Out :=
  .next
    (if s.supply.rstnHigh then s
     else
       let u := s.setSupply (Supply.watchRetention { s.supply with rstnHigh := true, vbakLow := start.vbakLow })
       if u.supply.mainInRange then u.start u.powerCause start else u)

/-- RESTART_TAKES_EFFECT (R204, R205): the last stop bit of the RESTART reply is sent, and a warm start begins. -/
def execRestartTakesEffect (start : StartInputs) (s : State) : Out :=
  .next
    (if s.supply.operating && s.restartReady then
       State.start (s.setSupply { s.supply with vbakLow := start.vbakLow }) .restart start
     else s)

end Sys2Proof.Machine
end

