-- ==== Sys2Proof/Machine/Dispatch.lean ====
section
/-! DEFINITION. Every command's meaning, one arm each. -/

namespace Sys2Proof.Machine

def exec (i : Instr) (s : State) : Host.Outcome State Fault Refusal :=
  match i with
  | .status tag payload => Sys2Proof.Machine.execStatus tag payload s
  | .restart tag payload => Sys2Proof.Machine.execRestart tag payload s
  | .timeSet tag payload => Sys2Proof.Machine.execTimeSet tag payload s
  | .timeGet tag payload => Sys2Proof.Machine.execTimeGet tag payload s
  | .scoreBegin tag payload => Sys2Proof.Machine.execScoreBegin tag payload s
  | .scoreData tag payload => Sys2Proof.Machine.execScoreData tag payload s
  | .scoreEnd tag payload => Sys2Proof.Machine.execScoreEnd tag payload s
  | .scoreErase tag payload => Sys2Proof.Machine.execScoreErase tag payload s
  | .scoreInfo tag payload => Sys2Proof.Machine.execScoreInfo tag payload s
  | .schedWrite tag payload => Sys2Proof.Machine.execSchedWrite tag payload s
  | .schedRead tag payload => Sys2Proof.Machine.execSchedRead tag payload s
  | .schedEnable tag payload => Sys2Proof.Machine.execSchedEnable tag payload s
  | .schedClear tag payload => Sys2Proof.Machine.execSchedClear tag payload s
  | .play tag payload => Sys2Proof.Machine.execPlay tag payload s
  | .stop tag payload => Sys2Proof.Machine.execStop tag payload s
  | .cueRead tag payload => Sys2Proof.Machine.execCueRead tag payload s
  | .settingsWrite tag payload => Sys2Proof.Machine.execSettingsWrite tag payload s
  | .settingsRead tag payload => Sys2Proof.Machine.execSettingsRead tag payload s
  | .bellWrite tag payload => Sys2Proof.Machine.execBellWrite tag payload s
  | .bellRead tag payload => Sys2Proof.Machine.execBellRead tag payload s
  | .bellEnable tag payload => Sys2Proof.Machine.execBellEnable tag payload s
  | .bellDisable tag payload => Sys2Proof.Machine.execBellDisable tag payload s
  | .bellClearFault tag payload => Sys2Proof.Machine.execBellClearFault tag payload s
  | .strike tag payload => Sys2Proof.Machine.execStrike tag payload s
  | .testChannel tag payload => Sys2Proof.Machine.execTestChannel tag payload s
  | .badKindRequest kind tag payload => Sys2Proof.Machine.execBadKindRequest kind tag payload s
  | .frameReject reason kind tag => Sys2Proof.Machine.execFrameReject reason kind tag s
  | .byteReceived data parityBit stopBit => Sys2Proof.Machine.execByteReceived data parityBit stopBit s
  | .gapTimeout => Sys2Proof.Machine.execGapTimeout s
  | .lineBreak => Sys2Proof.Machine.execLineBreak s
  | .transmitFrameEnd => Sys2Proof.Machine.execTransmitFrameEnd s
  | .secondStep => Sys2Proof.Machine.execSecondStep s
  | .cueExpiry cueId => Sys2Proof.Machine.execCueExpiry cueId s
  | .heldExpiry => Sys2Proof.Machine.execHeldExpiry s
  | .stintOrigin => Sys2Proof.Machine.execStintOrigin s
  | .yieldCut => Sys2Proof.Machine.execYieldCut s
  | .suspensionComplete => Sys2Proof.Machine.execSuspensionComplete s
  | .performanceComplete => Sys2Proof.Machine.execPerformanceComplete s
  | .ilockLineChange asserted => Sys2Proof.Machine.execIlockLineChange asserted s
  | .interlockDebounced => Sys2Proof.Machine.execInterlockDebounced s
  | .settleEnd => Sys2Proof.Machine.execSettleEnd s
  | .plannerTake => Sys2Proof.Machine.execPlannerTake s
  | .plannerResume => Sys2Proof.Machine.execPlannerResume s
  | .contextRetire => Sys2Proof.Machine.execContextRetire s
  | .entryFire => Sys2Proof.Machine.execEntryFire s
  | .lateDrop => Sys2Proof.Machine.execLateDrop s
  | .pulseEnd bell => Sys2Proof.Machine.execPulseEnd bell s
  | .recoveryEnd bell => Sys2Proof.Machine.execRecoveryEnd bell s
  | .refillStep => Sys2Proof.Machine.execRefillStep s
  | .railLineChange line asserted => Sys2Proof.Machine.execRailLineChange line asserted s
  | .railDebounced line => Sys2Proof.Machine.execRailDebounced line s
  | .impactInputAssert bell sixteenth => Sys2Proof.Machine.execImpactInputAssert bell sixteenth s
  | .impactRecognised bell => Sys2Proof.Machine.execImpactRecognised bell s
  | .windowClose bell => Sys2Proof.Machine.execWindowClose bell s
  | .testPulseStart => Sys2Proof.Machine.execTestPulseStart s
  | .testWaitDeadline => Sys2Proof.Machine.execTestWaitDeadline s
  | .isminAssert asserted => Sys2Proof.Machine.execIsminAssert asserted s
  | .isovrAssert asserted => Sys2Proof.Machine.execIsovrAssert asserted s
  | .testPulseEnd => Sys2Proof.Machine.execTestPulseEnd s
  | .testWindowClose => Sys2Proof.Machine.execTestWindowClose s
  | .testEnd => Sys2Proof.Machine.execTestEnd s
  | .mainPowerFail => Sys2Proof.Machine.execMainPowerFail s
  | .rstnLow => Sys2Proof.Machine.execRstnLow s
  | .vbakLow => Sys2Proof.Machine.execVbakLow s
  | .powerOnStart start => Sys2Proof.Machine.execPowerOnStart start s
  | .resetPinStart start => Sys2Proof.Machine.execResetPinStart start s
  | .restartTakesEffect start => Sys2Proof.Machine.execRestartTakesEffect start s
  | .impactInputClear bell => Sys2Proof.Machine.execImpactInputClear bell s
  | .lineReturnToMark => Sys2Proof.Machine.execLineReturnToMark s

end Sys2Proof.Machine
end

