-- ==== Sys2Proof/Machine/Step.lean ====
section
/-! DEFINITION. The step: the command at the front of the queue, or, on an empty queue, what the part does next by itself
(log 1). -/

namespace Sys2Proof.Machine

/-- One step of the part (log 1, log 4). -/
def step (s : State) : Host.Outcome State Fault Refusal :=
  match s.pending with
  | c :: rest => exec c (s.setPending rest)
  | [] =>
    if s.mustChoose then .next s.choose
    else
      match s.nextDue with
      | some c => exec c s
      | none => .next s.pass

/-- The command that a word spells, put at the front of the queue; no word spells one (log 27). -/
def State.withFetchWord (s : State) (nbits w : Nat) : State :=
  match decodeTableWord nbits w with
  | some c => s.setPending (c :: s.pending)
  | none => s

end Sys2Proof.Machine
end

