-- ==== Sys2Proof/Safety.lean ====
section
/-! DEFINITION. The terms that claims are made in: the parts of State and what a command may touch of them, and the
invariants that every step keeps. -/

namespace Sys2Proof.Machine

/-! ## Parts and frames -/

/-- The parts of State, one for each field. -/
inductive Part
  | pending | stb | refillDue | freeIndex | supply | calendar | schedule | scores | cues
  | engine | planner | queue | channels | reservoir | monitor | bells | link | notices
deriving DecidableEq, Repr

/-- A part is the same in two states. -/
def Part.same (p : Part) (s t : State) : Prop :=
  match p with
  | .pending => t.pending = s.pending
  | .stb => t.stb = s.stb
  | .refillDue => t.refillDue = s.refillDue
  | .freeIndex => t.freeIndex = s.freeIndex
  | .supply => t.supply = s.supply
  | .calendar => t.calendar = s.calendar
  | .schedule => t.schedule = s.schedule
  | .scores => t.scores = s.scores
  | .cues => t.cues = s.cues
  | .engine => t.engine = s.engine
  | .planner => t.planner = s.planner
  | .queue => t.queue = s.queue
  | .channels => t.channels = s.channels
  | .reservoir => t.reservoir = s.reservoir
  | .monitor => t.monitor = s.monitor
  | .bells => t.bells = s.bells
  | .link => t.link = s.link
  | .notices => t.notices = s.notices

/-- Every part but the listed ones is the same in two states. -/
structure Touches (parts : List Part) (s t : State) : Prop where
  /-- A part that is not listed is the same. -/
  same : ∀ p : Part, p ∉ parts → p.same s t

/-! ## Requests and their answers (R195, R196) -/

/-- The part operates, and its receive side can hand a good frame on at once (R194). -/
def Listening (s : State) : Prop := s.supply.operating = true ∧ s.link.quiet = true

/-- The state with a request's reply in the reply buffer, and the transmitter's choice made (R195, R196). -/
def State.answering (s : State) (kind tag : Byte) (status : Status) (fields : List Byte) : State :=
  State.choose
    { s with
      link :=
        { s.link with
          reply := some { kind := kind + 0x80, tag := tag, payload := status.code :: fields } } }

/-- The calendar that a warm start leaves (R46): as it was, and a second step still to be taken, which fell before the
start, is counted and not evaluated (R36, R203). -/
def Calendar.counted (c : Calendar) : Calendar :=
  if c.stepDue then
    { time := nextSecond c.time, valid := c.valid && decide (c.time ≠ lastSecond), phase := 0, stepDue := false }
  else c

/-- What a warm start leaves, field by field: retained blocks kept, the lines read, an asserted input to be seen clear
first; the hold start of 0 is log 14's (R13, R31, R46, R63, R98, R100, R125, R151, R163, R185, R200, R206,
R207). -/
structure WarmStarted (s t : State) (cause : StartCause) (straps : BitVec 2) (vbakLow : Bool) : Prop where
  pending : t.pending = s.pending
  stb : t.stb = 0 ∧ t.refillDue = false ∧ t.freeIndex = s.freeIndex
  supply : t.supply.operating = true ∧ t.supply.mainInRange = true ∧ t.supply.rstnHigh = true
    ∧ t.supply.starting = none ∧ t.supply.vbakLow = vbakLow ∧ t.supply.retentionLost = false
    ∧ t.supply.startCause = cause
  calendar : t.calendar = s.calendar.counted
  records : t.scores.mem = s.scores.mem
  loading : ∀ i : SlotNo, s.scores.slots[i].state = .loading → t.scores.slots[i] = emptySlot
  loaded : ∀ i : SlotNo, s.scores.slots[i].state ≠ .loading →
    t.scores.slots[i] = { s.scores.slots[i] with refCount := 0 }
  schedule : ∀ i : EntryNo, t.schedule[i] = (s.schedule[i]).map fun e => { e with latched := false }
  bells : t.bells = s.bells
  settings : t.engine.breathLimit = s.engine.breathLimit ∧ t.reservoir.lateLimit = s.reservoir.lateLimit
    ∧ t.reservoir.capacity = s.reservoir.capacity ∧ t.reservoir.refillRate = s.reservoir.refillRate
  cues : t.cues = { waiting := [], nextId := 1 }
  performance : t.engine.current = none ∧ t.engine.held = none ∧ t.engine.settle = none ∧ t.engine.holdStart = 0
  planner : t.planner.state = .idle ∧ t.planner.stint = none ∧ t.planner.stall = none ∧ t.planner.log = []
    ∧ t.planner.phrase = 0 ∧ ∀ b : Bell, t.planner.shadow[b] = 0
  queue : t.queue = []
  channels : ∀ b : Bell, t.channels[b] = restChannel s.bells[b].startState
  charge : t.reservoir.charge = 0 ∧ t.reservoir.testDraw = none
  windows : t.monitor.test = none ∧ ∀ b : Bell, t.monitor.windows[b] = none
  inputs : ∀ b : Bell,
    t.monitor.inputs[b] = (match s.monitor.inputs[b] with
      | .clear => .clear
      | .filtering _ => .asserted
      | .asserted => .asserted)
  sense : t.monitor.ismin = s.monitor.ismin ∧ t.monitor.isovr = s.monitor.isovr
  link : t.link.fifo = [] ∧ t.link.holdo = false ∧ t.link.assembler = .hunting ∧ t.link.ended = none
    ∧ t.link.gapDeadline = none ∧ t.link.reply = none
    ∧ t.link.transmitter = .sending { kind := 0xE0, tag := 0, payload := [cause.code] } false 66000
    ∧ t.link.straps = straps ∧ t.link.rate = rateOfStraps straps ∧ t.link.inBreak = s.link.inBreak
    ∧ t.link.restartPending = false
  debouncers : t.engine.ilock = { line := s.engine.ilock.line, level := s.engine.ilock.line, since := none }
    ∧ t.reservoir.low = { line := s.reservoir.low.line, level := s.reservoir.low.line, since := none }
    ∧ t.reservoir.failing = { line := s.reservoir.failing.line, level := s.reservoir.failing.line, since := none }
  lines : t.engine.interlock = s.engine.ilock.line
    ∧ t.reservoir.rail = railLevelOf s.reservoir.low.line s.reservoir.failing.line
    ∧ t.engine.fail = s.reservoir.failing.line
  announced : t.notices =
    { waiting :=
        if s.engine.ilock.line || s.reservoir.failing.line
        then [.hold true s.engine.ilock.line s.reservoir.failing.line] else []
      overflow := false }
  engine : t.engine.state = if s.engine.ilock.line || s.reservoir.failing.line then .held else .idle

/-! ## What is settled about the striking outputs (R130, R138, R203) -/

/-- The engine, the planner, the channels and the test agree, so that no gate is on in a hold or while the part is
stopped. -/
structure HoldSafe (s : State) : Prop where
  /-- A performance is current in STARTING, PLAYING, YIELDING and DRAINING, and in no other state (R73). -/
  current : s.engine.current.isSome = decide (s.engine.state ≠ .idle ∧ s.engine.state ≠ .held)
  /-- A performance is held in HELD alone (R73). -/
  heldOnly : s.engine.held.isSome = true → s.engine.state = .held
  /-- Without a current performance the planner is IDLE (R123). -/
  plannerIdle : s.engine.current = none → s.planner.state = .idle
  /-- A hold source keeps the engine in HELD (R89, R90). -/
  sources : s.engine.sourcePresent = true → s.engine.state = .held
  /-- A settle runs only with no hold source present (R90). -/
  settleClear : s.engine.settle.isSome = true → s.engine.sourcePresent = false
  /-- A test's channel is TESTING, and no test is in progress in a hold (R147, R182). -/
  test : ∀ t, s.monitor.test = some t → s.channels[t.bell].state = .testing ∧ s.engine.state ≠ .held
  /-- A TESTING channel's prior state is DISABLED, READY or FAULT (R147). -/
  prior : ∀ b : Bell, s.channels[b].state = .testing →
    s.channels[b].prior = some .disabled ∨ s.channels[b].prior = some .ready ∨ s.channels[b].prior = some .fault
  /-- A gate is on in FIRING, and in TESTING during the test pulse alone (R130). -/
  gates : ∀ b : Bell, s.channels[b].gate = true →
    s.channels[b].state = .firing
      ∨ s.channels[b].state = .testing ∧ ∃ t, s.monitor.test = some t ∧ t.bell = b ∧ t.phase = .pulse
  /-- In a hold no strike waits and no channel is FIRING (R138). -/
  held : s.engine.state = .held → s.queue = [] ∧ ∀ b : Bell, s.channels[b].state ≠ .firing
  /-- A stopped part has every gate off (R203). -/
  stopped : s.supply.operating = false → ∀ b : Bell, s.channels[b].gate = false

/-! ## Capacities and ranges -/

/-- The capacities hold (R66, R110, R127, R152, R187, R197). -/
structure Bounded (s : State) : Prop where
  charge : s.reservoir.charge ≤ s.reservoir.capacity
  queue : s.queue.length ≤ 96
  cues : s.cues.waiting.length ≤ 16
  log : s.planner.log.length ≤ 4
  fifo : s.link.fifo.length ≤ 64
  notices : s.notices.waiting.length ≤ 32

/-- The four settings lie in their ranges (R98). -/
structure SettingsInRange (s : State) : Prop where
  breathLimit : 1 ≤ s.engine.breathLimit ∧ s.engine.breathLimit ≤ 30
  lateLimit : s.reservoir.lateLimit ≤ 250
  capacity : 400 ≤ s.reservoir.capacity ∧ s.reservoir.capacity ≤ 4000
  refillRate : 1 ≤ s.reservoir.refillRate ∧ s.reservoir.refillRate ≤ 8

/-- The calendar stands at a real second of its range, and its phase below 1000 (R33). -/
structure CalendarReal (s : State) : Prop where
  real : s.calendar.time.real = true
  phase : s.calendar.phase ≤ 999

/-- A bell's record keeps the ranges and constraints of its configuration, and its service part the ranges of R2, the
learned flight between the floor and the ceiling (R1, R2, R9, R170). -/
structure BellInRange (r : BellRecord) : Prop where
  driveWidth : 4 ≤ r.config.driveWidth ∧ r.config.driveWidth ≤ 80
  recovery : 10 ≤ r.config.recovery ∧ r.config.recovery ≤ 4000 ∧ r.config.driveWidth < r.config.recovery
  coilClass : 1 ≤ r.config.coilClass ∧ r.config.coilClass ≤ 4
  floor : 1 ≤ r.config.floor ∧ r.config.floor < r.config.ceiling
  ceiling : r.config.ceiling ≤ 500 ∧ r.config.driveWidth ≤ r.config.ceiling
  seed : r.config.floor ≤ r.config.seed ∧ r.config.seed ≤ r.config.ceiling
  flight : 16 * r.config.floor ≤ r.flight ∧ r.flight ≤ 16 * r.config.ceiling
  fired : r.fired ≤ 4294967295
  strays : r.strays ≤ 255
  misses : r.misses ≤ 3
  outliers : r.outliers ≤ 6

/-! ## Orders and stores -/

/-- The Strike Queue stands in its order, which is total; every entry lies before its bell's shadow, and its channel is in
service (R119, R127, R130). -/
structure QueueServed (s : State) : Prop where
  ordered : s.queue.Pairwise fun a b => a.ahead b = true
  spaced : ∀ e ∈ s.queue, e.earliest < s.planner.shadow[e.bell]
  served : ∀ e ∈ s.queue, s.channels[e.bell].state.inService = true

/-- The tempo remainder stays within 0 to 47, sound times do not decrease, the phrase numbers of the breath log rise, and
the log holds a context throughout a stint (R106, R110). -/
structure PlannerOrdered (s : State) : Prop where
  remainder : ∀ st, s.planner.stint = some st → st.cursor.remainder ≤ 47
  strokes : ∀ st bell velocity interval count, s.planner.stint = some st →
    st.action = .count bell velocity interval count → st.cursor.point ≤ st.origin + st.cursor.index * interval
  log : s.planner.log.Pairwise fun a b => a.phrase < b.phrase ∧ a.sound ≤ b.sound
  recent : ∀ c ∈ s.planner.log, ∀ st, s.planner.stint = some st → c.phrase ≤ s.planner.phrase ∧ c.sound ≤ st.cursor.point
  present : s.planner.state ≠ .idle → s.planner.stint.isSome = true ∧ s.planner.log ≠ []
  absent : s.planner.state = .idle → s.planner.stint = none ∧ s.planner.log = []

/-- The Cue List stands in its order, and cue ids are 1 to 255 and differ (R65, R66). -/
structure CuesOrdered (s : State) : Prop where
  ordered : s.cues.waiting.Pairwise fun a b => a.staysAhead b = true
  ids : s.idsInUse.Nodup
  range : ∀ n ∈ s.idsInUse, 1 ≤ n ∧ n ≤ 255
  nextId : 1 ≤ s.cues.nextId ∧ s.cues.nextId ≤ 255

/-- The live cues: waiting, current and held. -/
def State.liveCues (s : State) : List Cue :=
  s.cues.waiting
    ++ (match s.engine.current with
        | none => []
        | some p => [p.cue])
    ++ (match s.engine.held with
        | none => []
        | some h => [h.cue])

/-- A cue names a slot (R28). -/
def Cue.names (c : Cue) (i : SlotNo) : Bool :=
  match c.action with
  | .score slot _ _ => decide (slot = i)
  | .count .. => false

/-- Reference counts count the live cues that name the slot, and an entry is latched exactly while one live cue comes from
it (R28, R56). -/
structure CuesCounted (s : State) : Prop where
  references : ∀ i : SlotNo, s.scores.slots[i].refCount = (s.liveCues.filter fun c => c.names i).length
  latches : ∀ i : EntryNo,
    (s.liveCues.filter fun c => decide (c.source = .schedule i)).length = if isLatched s.schedule[i] then 1 else 0

/-- The channel states that a start tells apart; a testing channel counts as its prior state (R13). -/
def Channel.position (c : Channel) : ChannelState :=
  match (if c.state = .testing then c.prior.getD .testing else c.state) with
  | .ready | .firing | .recovering => .ready
  | x => x

/-- A bell's record says at each moment the service position of its channel, which is therefore what a warm start brings
back (R4, R5, R13). -/
structure ServiceAgrees (s : State) : Prop where
  position : ∀ b : Bell, s.bells[b].startState = s.channels[b].position
  faultless : ∀ b : Bell, s.bells[b].enabled = false → s.bells[b].faultCause = .none
  withoutStriker : ∀ b : Bell, s.bells[b].config.present = false → s.bells[b].enabled = false

/-- A slot is as its state says: EMPTY with nothing, or loaded up to its next expected offset in a chain of the blocks
its records need; READY when all are there; referenced only when READY (R20, R21, R28). -/
structure SlotFits (x : Slot) : Prop where
  empty : x.state = .empty → x = emptySlot
  chain : x.chain.length = blocksNeeded x.recordCount
  loaded : x.state ≠ .empty → x.header.isSome = true ∧ x.nextOffset ≤ x.recordCount
  ready : x.state = .ready → x.nextOffset = x.recordCount
  referenced : 0 < x.refCount → x.state = .ready

/-- Every block is a block of the pool and in at most one chain, and every slot is as its state says (R20, R21). -/
structure StoreSound (s : State) : Prop where
  disjoint : (usedBlocks s.scores.slots.toList).Nodup
  blocks : ∀ k ∈ usedBlocks s.scores.slots.toList, k < 512
  slots : ∀ i : SlotNo, SlotFits s.scores.slots[i]

/-- Every record of every READY score is valid (R19, R25). -/
def ReadyValid (s : State) : Prop :=
  ∀ i : SlotNo, s.scores.slots[i].state = .ready →
    firstInvalid s.scores.mem s.scores.slots[i].chain 0 s.scores.slots[i].recordCount = none

end Sys2Proof.Machine
end

