-- ==== Sys2Proof/Certificates/Slice0/Obligations.lean ====
section
/-! DEFINITION. The statements for the provers. A command's meaning is mostly stated as an equation: the next state is
the given one with the named fields replaced and everything else as it was, after the transmitter's choice (R196). -/

open Sys2Proof Sys2Proof.Machine

/-! ## The step -/

/-- A step takes the command at the front of the queue and runs it on the state with the queue's rest. The queue is the
model's form for a block (log 1). -/
def Obligations.StepRunsFrontCommand : Prop :=
  ∀ (c : Instr) (rest : List Instr) (s : State),
    step { s with pending := c :: rest } = exec c { s with pending := rest }

/-- On an empty queue the part goes on by itself, in an order that is the model's choice (log 1): a choice that waits is
made, else a row that is due is taken, and else a millisecond passes (00_scope.md, Strike time base; R36). In it the STB
rises by 1; the phase of the calendar rises or its second step falls due, its millisecond locked to the STB's (log 8); the
transmitter sends on by the rate (log 10); and a refill step falls due (log 2). These three are the model's choices too. A
stopped part counts the calendar alone (R203). -/
def Obligations.QuietMillisecondPasses : Prop :=
  ∀ s : State, s.pending = [] →
    (s.supply.operating = true → s.link.transmitter = .idle → s.link.reply ≠ none ∨ s.notices.waiting ≠ [] →
      step s = .next s.choose)
    ∧ (∀ c, s.mustChoose = false → s.nextDue = some c → step s = exec c s)
    ∧ (s.supply.operating = true → s.mustChoose = false → s.nextDue = none →
      step s = .next
        { s with
          stb := s.stb + 1
          refillDue := true
          calendar :=
            if s.calendar.phase + 1 < 1000 then { s.calendar with phase := s.calendar.phase + 1 }
            else { s.calendar with stepDue := true }
          link :=
            { s.link with
              transmitter := match s.link.transmitter with
                | .idle => .idle
                | .sending f isReply left => .sending f isReply (left - s.link.rate) } })
    ∧ (s.supply.operating = false → s.supply.starting = none → s.calendar.stepDue = false →
      step s = .next
        { s with
          calendar :=
            if s.calendar.phase + 1 < 1000 then { s.calendar with phase := s.calendar.phase + 1 }
            else { s.calendar with stepDue := true } })

/-! ## Stops and starts -/

/-- The inputs and lines of the part are all clear. -/
def LinesClear (s : State) : Prop :=
  s.engine.ilock.line = false ∧ s.reservoir.low.line = false ∧ s.reservoir.failing.line = false
    ∧ (∀ b : Bell, s.monitor.inputs[b] = .clear) ∧ s.monitor.ismin = false ∧ s.monitor.isovr = false
    ∧ s.link.inBreak = false

/-- The part with its outputs as a stop leaves them and its supplies as given: gates off, Hold released, nothing sent, no
restart awaited, and an impact input asserted then to be seen clear first (R203, R205; what else stays is log 22). -/
def outputsOff (s : State) (supply : Supply) : State :=
  { s with
    supply := { supply with operating := false }
    channels := s.channels.map fun c => { c with gate := false }
    link := { s.link with holdo := false, transmitter := .idle, restartPending := false }
    monitor :=
      { s.monitor with
        inputs := s.monitor.inputs.map fun i => match i with
          | .clear => .clear
          | .filtering _ => .asserted
          | .asserted => .asserted } }

/-- A cold start from any stopped state, with the lines clear, the straps low and VBAK sound, leaves State.reset: every
retained block at its cold values, every other at its start values, and START being sent (R13, R32, R46, R63, R98, R100,
R125, R151, R163, R185, R200, R204, R206). Of State.reset, the hold start of 0 and the pins (log 14), the pool's empty list
of bytes (log 18) and the mark of the refill step (log 2) are the model's choices, and the queue of commands and the free
value's index, its own, stay. A start that has only begun has decided its kind by the latch and left the latch as it was
(R204, R206; the begun start is log 15's): a stop abandons it, and on an empty queue it is carried through to what the
completed start leaves. -/
def Obligations.ColdStartLeavesReset : Prop :=
  (∀ s : State, s.supply.operating = false → s.supply.retentionLost = true → LinesClear s →
     let low : StartInputs := { straps := 0, vbakLow := false, reach := .completed }
     let cold : State := { State.reset with pending := s.pending, freeIndex := s.freeIndex }
     (s.supply.mainInRange = true → s.supply.rstnHigh = false → exec (.resetPinStart low) s = .next cold)
     ∧ (s.supply.mainInRange = false → s.supply.rstnHigh = true → exec (.powerOnStart low) s = .next cold))
  ∧ ∀ (s : State) (straps : BitVec 2) (vbakLow : Bool), s.supply.operating = false →
      let upTo (reach : StartReach) : StartInputs := { straps := straps, vbakLow := vbakLow, reach := reach }
      let begun : Supply :=
        { s.supply with
          mainInRange := true, rstnHigh := true, vbakLow := vbakLow, starting := some straps
          startCause := if s.supply.retentionLost then .cold else .warm }
      (s.supply.mainInRange = true → s.supply.rstnHigh = false →
        exec (.resetPinStart (upTo .begun)) s = .next (outputsOff s begun)
        ∧ (s.pending = [] → s.calendar.stepDue = false →
          step (outputsOff s begun) = exec (.resetPinStart (upTo .completed)) s))
      ∧ (s.supply.mainInRange = false → s.supply.rstnHigh = true →
        exec (.powerOnStart (upTo .begun)) s = .next (outputsOff s begun)
        ∧ (s.pending = [] → s.calendar.stepDue = false →
          step (outputsOff s begun) = exec (.powerOnStart (upTo .completed)) s))

/-- A power-on or reset-pin start with the latch clear is a warm start (R204), whatever the lines, straps and VBAK, and
leaves every block as its chapter says. So is the end of the RESTART reply's last stop bit, with cause RESTART (R205), read
off the command's pins; the row TRANSMIT_FRAME_END of that frame is the same start with the pins as last read (log 21). A
warm start abandoned before operation, whether its retained blocks are done or not, leaves the latch clear and the part
stopped (R204; log 15). -/
def Obligations.WarmStartsKeepRetained : Prop :=
  (∀ (s : State) (straps : BitVec 2) (vbakLow : Bool), s.supply.operating = false → s.supply.retentionLost = false →
     let upTo (reach : StartReach) : StartInputs := { straps := straps, vbakLow := vbakLow, reach := reach }
     (s.supply.mainInRange = true → s.supply.rstnHigh = false →
       (∃ t, exec (.resetPinStart (upTo .completed)) s = .next t ∧ WarmStarted s t .warm straps vbakLow)
       ∧ ∀ reach, reach ≠ .completed →
         ∃ t u, exec (.resetPinStart (upTo reach)) s = .next t ∧ exec .rstnLow t = .next u
           ∧ u.supply = { s.supply with vbakLow := vbakLow, starting := none, startCause := .warm })
     ∧ (s.supply.mainInRange = false → s.supply.rstnHigh = true →
       (∃ t, exec (.powerOnStart (upTo .completed)) s = .next t ∧ WarmStarted s t .warm straps vbakLow)
       ∧ ∀ reach, reach ≠ .completed →
         ∃ t u, exec (.powerOnStart (upTo reach)) s = .next t ∧ exec .rstnLow t = .next u
           ∧ u.supply =
             { s.supply with
               mainInRange := true, rstnHigh := false, vbakLow := vbakLow, starting := none, startCause := .warm }))
  ∧ ∀ (s : State) (straps : BitVec 2) (vbakLow : Bool) (f : Frame) (left : Nat), s.supply.operating = true →
      s.supply.mainInRange = true → s.supply.rstnHigh = true →
      s.link.transmitter = .sending f true left → s.link.restartPending = true →
        (∃ t, exec (.restartTakesEffect { straps := straps, vbakLow := vbakLow, reach := .completed }) s = .next t
          ∧ WarmStarted s t .restart straps vbakLow)
        ∧ exec (.restartTakesEffect { straps := straps, vbakLow := vbakLow, reach := .begun }) s =
          .next (outputsOff s { s.supply with vbakLow := vbakLow, starting := some straps, startCause := .restart })
        ∧ ∃ t, exec .transmitFrameEnd s = .next t ∧ WarmStarted s t .restart s.link.straps s.supply.vbakLow

/-- A stop turns every gate off, releases Hold, cuts the transmitter and an awaited restart short, and abandons a start in
progress with the latch as it was (R203 to R205). The latch is set while main power is absent and VBAK is low: when VBAK
falls then, or when main power is lost over a VBAK that fell earlier and showed nothing until then (R202; log 32). A cold
start prepared up to operation has cleared it, and abandoned then it leaves the next start warm (R204; log 15). -/
def Obligations.StopsTurnOutputsOff : Prop :=
  (∀ s : State,
     exec .mainPowerFail s =
       .next
         (outputsOff s
           { s.supply with
             mainInRange := false, starting := none
             retentionLost := s.supply.retentionLost || s.supply.vbakLow })
     ∧ exec .rstnLow s = .next (outputsOff s { s.supply with rstnHigh := false, starting := none })
     ∧ exec .vbakLow s =
       .next
         { s with
           supply :=
             { s.supply with
               vbakLow := true, retentionLost := s.supply.retentionLost || !s.supply.mainInRange } })
  ∧ ∀ (s : State) (straps : BitVec 2) (vbakLow : Bool), s.supply.operating = false → s.supply.mainInRange = true →
      s.supply.rstnHigh = false →
        ∃ t, exec (.resetPinStart { straps := straps, vbakLow := vbakLow, reach := .prepared }) s = .next t
          ∧ t.supply =
            { operating := false, mainInRange := true, rstnHigh := true, vbakLow := vbakLow, starting := some straps
              retentionLost := false, startCause := if s.supply.retentionLost then .cold else .warm }
          ∧ (∀ b : Bell, t.channels[b].gate = false) ∧ t.link.transmitter = .idle

/-! ## Requests: reports -/

/-- STATUS reports its fields as they stand and clears the overflow flag alone (R198). RESTART is answered OK and changes
nothing at once but that its reply's end is now awaited (R205). TIME_GET, SETTINGS_READ, SCORE_INFO and SCHED_READ answer
OK with the fields as they stand and change nothing (R27, R44, R59, R161). -/
def Obligations.ReportsCarryFieldsAsTheyStand : Prop :=
  (∀ (s : State) (tag : Byte), Listening s →
     exec (.status tag []) s =
       .next
         (State.answering { s with notices := { s.notices with overflow := false } } 0x01 tag .ok
           ([s.engine.state.code, byteOf ((s.engine.current.map fun p => p.cue.id).getD 0),
             byteOf ((s.engine.held.map fun h => h.cue.id).getD 0), sourceByte s.engine.interlock s.engine.fail,
             s.reservoir.rail.code, flagByte s.calendar.valid, byteOf s.cues.waiting.length, byteOf s.queue.length]
             ++ bigEndian 2 s.reservoir.charge ++ [flagByte s.notices.overflow, s.supply.startCause.code]))
     ∧ exec (.restart tag []) s =
       .next (State.answering { s with link := { s.link with restartPending := true } } 0x02 tag .ok []))
  ∧ ∀ (s : State) (tag : Byte), Listening s →
      exec (.timeGet tag []) s =
        .next
          (s.answering 0x11 tag .ok
            (bigEndian 2 s.calendar.time.year
              ++ [byteOf s.calendar.time.month, byteOf s.calendar.time.day, byteOf s.calendar.time.hour,
                byteOf s.calendar.time.minute, byteOf s.calendar.time.second,
                byteOf ((dayNumber s.calendar.time + 5) % 7 + 1), flagByte s.calendar.valid]
              ++ bigEndian 2 s.calendar.phase))
      ∧ exec (.settingsRead tag []) s =
        .next
          (s.answering 0x45 tag .ok
            ([byteOf s.engine.breathLimit, byteOf s.reservoir.lateLimit] ++ bigEndian 2 s.reservoir.capacity
              ++ [byteOf s.reservoir.refillRate]))
      ∧ (∀ i : SlotNo,
        exec (.scoreInfo tag [byteOf i.val]) s =
          .next
            (s.answering 0x24 tag .ok
              ([s.scores.slots[i].state.code]
                ++ (match s.scores.slots[i].header with
                    | some h =>
                      bigEndian 2 h.recordCount ++ bigEndian 2 h.defaultBeat ++ [byteOf h.repeats]
                        ++ bigEndian 2 h.repeatGap
                    | none => [0, 0, 0, 0, 0, 0, 0])
                ++ bigEndian 2 s.scores.slots[i].nextOffset ++ bigEndian 2 s.scores.slots[i].chain.length
                ++ [byteOf s.scores.slots[i].refCount] ++ bigEndian 2 s.freeCount)))
      ∧ ∀ i : EntryNo,
        (s.schedule[i] = none →
          exec (.schedRead tag [byteOf i.val]) s =
            .next (s.answering 0x31 tag .ok (byteOf i.val :: List.replicate 29 0)))
        ∧ ∀ e, s.schedule[i] = some e →
          exec (.schedRead tag [byteOf i.val]) s =
            .next
              (s.answering 0x31 tag .ok
                ([byteOf i.val, 1, flagByte e.enabled, flagByte e.latched] ++ stampBytes e.stamp ++ e.pattern.bytes
                  ++ [e.action.kindByte, byteOf e.priority, e.mode.code] ++ bigEndian 2 e.maxWait ++ e.action.bytes))

/-- CUE_READ finds the current performance by 0 or by its id, then the held one, then a listed cue with its position, and
reports each with its own context (R72); BELL_READ reports the record and the channel's state, and clears the stray count
after it has been placed in the reply, if asked (R12). Both change nothing else. -/
def Obligations.CueAndBellReads : Prop :=
  ∀ (s : State) (tag n : Byte), Listening s →
    (∀ q, s.engine.current = some q → n.toNat = 0 ∨ n.toNat = q.cue.id →
      exec (.cueRead tag [n]) s =
        .next (s.answering 0x42 tag .ok (cueBytes 0 0 q.cue (if q.fromSaved then some q.context else none))))
    ∧ ((∀ q, s.engine.current = some q → n.toNat ≠ 0 ∧ n.toNat ≠ q.cue.id) →
      (∀ h, s.engine.held = some h → n.toNat = h.cue.id →
        exec (.cueRead tag [n]) s = .next (s.answering 0x42 tag .ok (cueBytes 1 0 h.cue (some h.context))))
      ∧ ((∀ h, s.engine.held = some h → n.toNat ≠ h.cue.id) →
        (∀ (before : List Cue) (c : Cue) (after : List Cue), s.cues.waiting = before ++ c :: after → c.id = n.toNat →
          (∀ x ∈ before, x.id ≠ n.toNat) →
            exec (.cueRead tag [n]) s =
              .next (s.answering 0x42 tag .ok (cueBytes 2 before.length c c.saved)))
        ∧ ((∀ x ∈ s.cues.waiting, x.id ≠ n.toNat) →
          exec (.cueRead tag [n]) s = .next (s.answering 0x42 tag .notFound []))))
    ∧ ∀ b : Bell,
      exec (.bellRead tag [byteOf b.val, 0]) s =
        .next (s.answering 0x51 tag .ok (s.bells[b].config.bytes b ++ s.bells[b].serviceBytes s.channels[b].state))
      ∧ exec (.bellRead tag [byteOf b.val, 1]) s =
        .next
          (State.answering { s with bells := s.bells.set b { s.bells[b] with strays := 0 } } 0x51 tag .ok
            (s.bells[b].config.bytes b ++ s.bells[b].serviceBytes s.channels[b].state))

/-! ## Requests: refusals -/

/-- A request that the owning block refuses changes nothing: whatever the kind and the payload, an answer whose status is
none of OK, ACCEPTED and BAD_SCORE leaves everything but the reply as it was (R195, R210). A KIND that names no request
is refused BAD_KIND, and a wrong payload length BAD_LENGTH, with the status alone (R195, first and second check). -/
def Obligations.RefusedRequestsChangeNothing : Prop :=
  (∀ (s : State) (kind tag : Byte) (payload : List Byte), Listening s →
     (answer kind payload s).status ≠ .ok → (answer kind payload s).status ≠ .accepted →
     (answer kind payload s).status ≠ .badScore →
       exec (commandOf kind tag payload) s =
         .next (s.answering kind tag (answer kind payload s).status (answer kind payload s).fields))
  ∧ ∀ (s : State) (tag : Byte) (payload : List Byte), Listening s →
      (∀ kind : Byte, ReqKind.ofCode kind = none →
        exec (.badKindRequest kind tag payload) s = .next (s.answering kind tag .badKind []))
      ∧ ∀ k : ReqKind, lengthRight k payload.length = false →
        exec (commandOf k.code tag payload) s = .next (s.answering k.code tag .badLength [])

/-- A check list fails first at a field. -/
def FailsFirstAt (checks : List Bool) (i : Nat) : Prop :=
  checks[i]? = some false ∧ ∀ j, j < i → checks[j]? = some true

/-- PARAM names the first field out of range, in field order: TIME_SET (R39), SCORE_BEGIN (R22), SCHED_WRITE (R57), PLAY
(R71), SETTINGS_WRITE (R98), and BELL_WRITE, whose ranges come before its constraints between fields (R8, R9). So it is,
ahead of every other check, for the slot of SCORE_END, SCORE_ERASE and SCORE_INFO (R25 to R27), the entry of SCHED_READ,
SCHED_CLEAR and SCHED_ENABLE with its setting (R59 to R61), and the bell of BELL_READ with its clear field (R12), of
BELL_ENABLE, BELL_DISABLE and BELL_CLEAR_FAULT (R141), of STRIKE with its velocity (R148) and of TEST_CHANNEL (R176). -/
def Obligations.ParamNamesFirstBadField : Prop :=
  (∀ (s : State) (tag : Byte) (p : List Byte) (i : Nat), Listening s →
    (p.length = 7 → FailsFirstAt (timeChecks (timeFields p)) i →
      exec (.timeSet tag p) s = .next (s.answering 0x10 tag .param [byteOf i]))
    ∧ (p.length = 8 → FailsFirstAt (headerChecks p) i →
      exec (.scoreBegin tag p) s = .next (s.answering 0x20 tag .param [byteOf i]))
    ∧ (p.length = 21 → FailsFirstAt (schedChecks p) i →
      exec (.schedWrite tag p) s = .next (s.answering 0x30 tag .param [byteOf i]))
    ∧ (p.length = 12 → FailsFirstAt (actionChecks (actionFields p 0)) i →
      exec (.play tag p) s = .next (s.answering 0x40 tag .param [byteOf i]))
    ∧ (p.length = 5 → FailsFirstAt (settingsChecks p) i →
      exec (.settingsWrite tag p) s = .next (s.answering 0x44 tag .param [byteOf i]))
    ∧ (p.length = 13 → FailsFirstAt (configChecks p) i →
      exec (.bellWrite tag p) s = .next (s.answering 0x50 tag .param [byteOf i]))
    ∧ (p.length = 13 → (configChecks p).all id = true →
      let c := configFields p
      (c.ceiling ≤ c.floor → exec (.bellWrite tag p) s = .next (s.answering 0x50 tag .param [6]))
      ∧ (c.floor < c.ceiling → (c.seed < c.floor ∨ c.ceiling < c.seed) →
        exec (.bellWrite tag p) s = .next (s.answering 0x50 tag .param [7]))
      ∧ (c.floor < c.ceiling → c.floor ≤ c.seed → c.seed ≤ c.ceiling →
        (c.recovery ≤ c.driveWidth ∨ c.ceiling < c.driveWidth) →
          exec (.bellWrite tag p) s = .next (s.answering 0x50 tag .param [2]))))
  ∧ ∀ (s : State) (tag x y : Byte), Listening s →
      (31 < x.toNat →
        exec (.scoreEnd tag [x]) s = .next (s.answering 0x22 tag .param [0])
        ∧ exec (.scoreErase tag [x]) s = .next (s.answering 0x23 tag .param [0])
        ∧ exec (.scoreInfo tag [x]) s = .next (s.answering 0x24 tag .param [0]))
      ∧ (95 < x.toNat →
        exec (.schedRead tag [x]) s = .next (s.answering 0x31 tag .param [0])
        ∧ exec (.schedClear tag [x]) s = .next (s.answering 0x33 tag .param [0]))
      ∧ (∀ i, FailsFirstAt [decide (x.toNat ≤ 95), decide (y.toNat ≤ 1)] i →
        exec (.schedEnable tag [x, y]) s = .next (s.answering 0x32 tag .param [byteOf i]))
      ∧ (63 < x.toNat →
        exec (.bellEnable tag [x]) s = .next (s.answering 0x52 tag .param [0])
        ∧ exec (.bellDisable tag [x]) s = .next (s.answering 0x53 tag .param [0])
        ∧ exec (.bellClearFault tag [x]) s = .next (s.answering 0x54 tag .param [0])
        ∧ exec (.testChannel tag [x]) s = .next (s.answering 0x56 tag .param [0]))
      ∧ (∀ i, FailsFirstAt [decide (x.toNat ≤ 63), decide (y.toNat ≤ 1)] i →
        exec (.bellRead tag [x, y]) s = .next (s.answering 0x51 tag .param [byteOf i]))
      ∧ ∀ i, FailsFirstAt [decide (x.toNat ≤ 63), decide (1 ≤ y.toNat ∧ y.toNat ≤ 8)] i →
        exec (.strike tag [x, y]) s = .next (s.answering 0x55 tag .param [byteOf i])

/-! ## The calendar -/

/-- An accepted TIME_SET sets the second, phase 0 and the valid flag, and evaluates by the delta (R39 to R42): with the
flag at 0 the new second; from 1 to 120 each second from old + 1 to new; at 0 the new second again; else the new second
behind a TIME_JUMP with the clamped delta. The reply stands before the notices. That nothing comes between the entries and
seconds of an evaluation is the model's choice (log 33). -/
def Obligations.TimeSetEvaluatesByDelta : Prop :=
  ∀ (s : State) (tag : Byte) (t : CalTime), Listening s → t.real = true →
    let p := bigEndian 2 t.year ++ [byteOf t.month, byteOf t.day, byteOf t.hour, byteOf t.minute, byteOf t.second]
    let old := s.calendar.time
    let delta : Int :=
      86400 * ((dayNumber t : Int) - dayNumber old)
        + ((3600 * t.hour + 60 * t.minute + t.second : Nat) - (3600 * old.hour + 60 * old.minute + old.second : Nat))
    let set : State := { s with calendar := { time := t, valid := true, phase := 0, stepDue := false } }
    (s.calendar.valid = false → exec (.timeSet tag p) s = .next ((set.evaluate t).answering 0x10 tag .ok []))
    ∧ (s.calendar.valid = true →
      (1 ≤ delta → delta ≤ 120 →
        exec (.timeSet tag p) s = .next ((set.catchUp delta.toNat old).answering 0x10 tag .ok []))
      ∧ (delta = 0 → exec (.timeSet tag p) s = .next ((set.evaluate t).answering 0x10 tag .ok []))
      ∧ (delta < 0 →
        exec (.timeSet tag p) s =
          .next (((set.raise (.timeJump (max delta (-2147483648)) false)).evaluate t).answering 0x10 tag .ok []))
      ∧ (120 < delta →
        exec (.timeSet tag p) s =
          .next (((set.raise (.timeJump (min delta 2147483647) true)).evaluate t).answering 0x10 tag .ok [])))

/-- The second step (R36 to R38): the second advances and the phase restarts; an operating part whose flag was 1 and
stays 1 evaluates the new second; the step past the end of 2099 wraps and clears the flag; a stopped part only counts.
When it falls due is the model's (log 8), and that nothing comes between the entries of an evaluation (log 33); with
none due SECOND_STEP changes nothing (log 3), and so behind an accepted TIME_SET, whatever was due before it (R43). -/
def Obligations.SecondStepAdvancesAndEvaluates : Prop :=
  (∀ s : State,
    let stepped (valid : Bool) : State :=
      { s with calendar := { time := nextSecond s.calendar.time, valid := valid, phase := 0, stepDue := false } }
    let last := s.calendar.time = { year := 2099, month := 12, day := 31, hour := 23, minute := 59, second := 59 }
    (s.calendar.stepDue = true →
      (s.supply.operating = true → s.calendar.valid = true → ¬ last →
        exec .secondStep s = .next ((stepped true).evaluate (nextSecond s.calendar.time)).choose)
      ∧ (s.supply.operating = true → s.calendar.valid = false → exec .secondStep s = .next (stepped false).choose)
      ∧ (s.supply.operating = true → last →
        exec .secondStep s = .next (stepped false).choose
          ∧ nextSecond s.calendar.time = { year := 2000, month := 1, day := 1, hour := 0, minute := 0, second := 0 })
      ∧ (s.supply.operating = false →
        exec .secondStep s = .next (stepped (s.calendar.valid && decide (¬ last)))))
    ∧ (s.calendar.stepDue = false →
      (s.supply.operating = true → exec .secondStep s = .next s.choose)
      ∧ (s.supply.operating = false → exec .secondStep s = .next s)))
  ∧ ∀ (s : State) (tag : Byte) (t : CalTime), Listening s → t.real = true →
      let p := bigEndian 2 t.year ++ [byteOf t.month, byteOf t.day, byteOf t.hour, byteOf t.minute, byteOf t.second]
      ∃ u, exec (.timeSet tag p) s = .next u
        ∧ u.calendar = { time := t, valid := true, phase := 0, stepDue := false } ∧ exec .secondStep u = .next u

/-- The second step keeps a date and time real and moves it on by one second of R41's count, except at the end of 2099;
with it the weekday of R35 follows the date, from 7 back to 1 (R34 to R36). -/
def Obligations.NextSecondIsOneSecondLater : Prop :=
  ∀ t : CalTime, t.real = true →
    (nextSecond t).real = true
    ∧ (t ≠ lastSecond → secondsBetween t (nextSecond t) = 1)
    ∧ (1 ≤ weekday t ∧ weekday t ≤ 7)
    ∧ (t ≠ lastSecond → dayNumber (nextSecond t) = dayNumber t + 1 →
      weekday (nextSecond t) = if weekday t = 7 then 1 else weekday t + 1)

/-- The cue that a schedule entry makes at an evaluated second, before its id and entry time are given (R53). -/
def scheduledCue (i : EntryNo) (e : SchedEntry) (t : CalTime) : Cue :=
  { id := 0, source := .schedule i
    action := match e.action with
      | .score slot beat repeats => .score slot beat repeats
      | .count bell velocity interval rule => .count bell velocity interval (strokeCount rule t)
    priority := e.priority
    mode := match e.action with
      | .score .. => e.mode
      | .count .. => .firm
    maxWait := e.maxWait, entryTime := 0, started := false, saved := none
    counters := { planned := 0, fired := 0, firedLate := 0, dropped := 0, suspensions := 0 } }

/-- The civil minute of a second, which a stamp names (R51). -/
def minuteOf (t : CalTime) : Stamp :=
  { year := t.year, month := t.month, day := t.day, hour := t.hour, minute := t.minute }

/-- One entry at an evaluated second (R50 to R55): disabled, not matching, or with this minute's stamp, it does nothing;
else its stamp is set, and it is skipped LATCHED, skipped NO_SCORE, skipped LIST_FULL, or offers its cue with the stroke
count of that second and mode FIRM for a COUNT, which is admitted. -/
def Obligations.MatchingEntryHasOneOutcome : Prop :=
  ∀ (s : State) (t : CalTime) (i : EntryNo) (e : SchedEntry), s.schedule[i] = some e →
    let minute := minuteOf t
    let stamped : State := { s with schedule := s.schedule.set i (some { e with stamp := some minute }) }
    let cue := scheduledCue i e t
    (e.enabled = false ∨ e.pattern.matches t = false ∨ e.stamp = some minute → State.walkEntry t s i = s)
    ∧ (e.enabled = true → e.pattern.matches t = true → e.stamp ≠ some minute →
      (e.latched = true → State.walkEntry t s i = stamped.raise (.fireSkipped i .latched))
      ∧ (e.latched = false →
        (∀ slot beat repeats, e.action = .score slot beat repeats → s.scores.slots[slot].state ≠ .ready →
          State.walkEntry t s i = stamped.raise (.fireSkipped i .noScore))
        ∧ ((∀ slot beat repeats, e.action = .score slot beat repeats → s.scores.slots[slot].state = .ready) →
          (s.cues.waiting.length < 16 → State.walkEntry t s i = stamped.enterList cue)
          ∧ ∀ front last, s.cues.waiting = front ++ [last] → 16 ≤ s.cues.waiting.length →
            (last.priority ≤ e.priority → State.walkEntry t s i = stamped.raise (.fireSkipped i .listFull))
            ∧ (e.priority < last.priority →
              State.walkEntry t s i =
                (State.endCue { stamped with cues := { stamped.cues with waiting := front } } last .evicted).enterList
                  cue))))

/-! ## The Score Store -/

/-- SCORE_BEGIN on an unreferenced slot with room puts it in LOADING with the header, offset 0 and a chain of the
lowest-numbered blocks in no other slot's chain, and answers the free blocks left (R21 to R23); SCORE_ERASE empties an
unreferenced slot (R26). Without room NO_SPACE, and referenced BUSY, change nothing. -/
def Obligations.ScoreBeginAndErase : Prop :=
  ∀ (s : State) (tag : Byte) (i : SlotNo) (h : Header), Listening s →
    1 ≤ h.recordCount → h.recordCount ≤ 4096 → 200 ≤ h.defaultBeat → h.defaultBeat ≤ 2000 → 1 ≤ h.repeats →
    h.repeats ≤ 16 → h.repeatGap ≤ 4095 →
      let p := byteOf i.val :: (bigEndian 2 h.recordCount ++ bigEndian 2 h.defaultBeat ++ [byteOf h.repeats]
        ++ bigEndian 2 h.repeatGap)
      let needed := (h.recordCount + 15) / 16
      let chain := ((List.range 512).filter fun k =>
        decide (∀ j : SlotNo, j ≠ i → k ∉ s.scores.slots[j].chain)).take needed
      let begun : State :=
        { s with
          scores :=
            { s.scores with
              slots := s.scores.slots.set i
                { state := .loading, header := some h, chain := chain, nextOffset := 0, refCount := 0 } } }
      let erased : State := { s with scores := { s.scores with slots := s.scores.slots.set i emptySlot } }
      (s.scores.slots[i].refCount = 0 →
        (needed ≤ s.freeCount + s.scores.slots[i].chain.length →
          exec (.scoreBegin tag p) s = .next (begun.answering 0x20 tag .ok (bigEndian 2 begun.freeCount)))
        ∧ (s.freeCount + s.scores.slots[i].chain.length < needed →
          exec (.scoreBegin tag p) s = .next (s.answering 0x20 tag .noSpace []))
        ∧ exec (.scoreErase tag [byteOf i.val]) s =
          .next (erased.answering 0x23 tag .ok (bigEndian 2 erased.freeCount)))
      ∧ (0 < s.scores.slots[i].refCount →
        exec (.scoreBegin tag p) s = .next (s.answering 0x20 tag .busy [])
        ∧ exec (.scoreErase tag [byteOf i.val]) s = .next (s.answering 0x23 tag .busy []))

/-- SCORE_DATA at the next expected offset of a LOADING slot stores its 1 to 24 records unchanged, each at its place in the
chain, advances the offset, and leaves every other byte of the pool as it read (R21, R24). The store is sound and the pool's
bytes stand in canonical form, as StepsKeepStoreSound keeps them (log 18). -/
def Obligations.ScoreDataStoresRecords : Prop :=
  ∀ (s : State) (tag : Byte) (i : SlotNo) (records : List NoteRecord), Listening s → StoreSound s →
    Memory.wf s.scores.mem = true →
    let x := s.scores.slots[i]
    x.state = .loading → 1 ≤ records.length → records.length ≤ 24 → x.nextOffset + records.length ≤ x.recordCount →
    x.recordCount ≤ 4096 →
      ∃ mem,
        exec (.scoreData tag
            (byteOf i.val :: (bigEndian 2 x.nextOffset ++ records.flatMap fun r => [r.b0, r.b1, r.b2, r.b3]))) s =
          .next
            (State.answering
              { s with
                scores :=
                  { slots := s.scores.slots.set i { x with nextOffset := x.nextOffset + records.length }
                    mem := mem } }
              0x21 tag .ok (bigEndian 2 (x.nextOffset + records.length)))
        ∧ (∀ k r, records[k]? = some r → recordAt mem x.chain (x.nextOffset + k) = r)
        ∧ ∀ a,
          (∀ k j, k < records.length → j < 4 →
            a ≠ (x.chain.getD ((x.nextOffset + k) / 16) 0 * 16 + (x.nextOffset + k) % 16) * 4 + j) →
              Memory.readByte mem a = Memory.readByte s.scores.mem a

/-- SCORE_END validates a fully loaded slot (R25): every record valid, it becomes READY; else EMPTY, answered BAD_SCORE
with the first invalid index. On a slot not LOADING it is NOT_FOUND, and too early SEQUENCE with the next expected offset.
A SCORE_DATA of 1 to 24 records is refused, and changes nothing, by the first check that fails (R24): PARAM with field 0
for no slot, NOT_FOUND on a slot not LOADING, SEQUENCE with the next expected offset at another offset, and PARAM with
field 2 for records past the header's count. -/
def Obligations.ScoreEndSettlesSlot : Prop :=
  ∀ (s : State) (tag : Byte) (i : SlotNo), Listening s →
    let x := s.scores.slots[i]
    let written (y : Slot) : State := { s with scores := { s.scores with slots := s.scores.slots.set i y } }
    (x.state = .loading → x.nextOffset = x.recordCount →
      ((∀ k, k < x.recordCount → (recordAt s.scores.mem x.chain k).valid = true) →
        exec (.scoreEnd tag [byteOf i.val]) s =
          .next ((written { x with state := .ready }).answering 0x22 tag .ok []))
      ∧ ∀ k, k < x.recordCount → (recordAt s.scores.mem x.chain k).valid = false →
        (∀ j, j < k → (recordAt s.scores.mem x.chain j).valid = true) →
          exec (.scoreEnd tag [byteOf i.val]) s =
            .next ((written emptySlot).answering 0x22 tag .badScore (bigEndian 2 k)))
    ∧ (x.state = .loading → x.nextOffset < x.recordCount →
      exec (.scoreEnd tag [byteOf i.val]) s =
        .next (s.answering 0x22 tag .sequence (bigEndian 2 x.nextOffset)))
    ∧ (x.state ≠ .loading → exec (.scoreEnd tag [byteOf i.val]) s = .next (s.answering 0x22 tag .notFound []))
    ∧ ∀ (offset : Nat) (records : List NoteRecord), offset < 65536 → 1 ≤ records.length → records.length ≤ 24 →
      let data (slot : Byte) : Instr :=
        .scoreData tag (slot :: (bigEndian 2 offset ++ records.flatMap fun r => [r.b0, r.b1, r.b2, r.b3]))
      (∀ slot : Byte, 31 < slot.toNat → exec (data slot) s = .next (s.answering 0x21 tag .param [0]))
      ∧ (x.state ≠ .loading → exec (data (byteOf i.val)) s = .next (s.answering 0x21 tag .notFound []))
      ∧ (x.state = .loading → offset ≠ x.nextOffset →
        exec (data (byteOf i.val)) s = .next (s.answering 0x21 tag .sequence (bigEndian 2 x.nextOffset)))
      ∧ (x.state = .loading → offset = x.nextOffset → x.recordCount < offset + records.length →
        exec (data (byteOf i.val)) s = .next (s.answering 0x21 tag .param [2]))

/-! ## The Schedule Table -/

/-- SCHED_WRITE with every field in range on an unlatched entry defines it as written and keeps its stamp (R57, R58);
SCHED_ENABLE sets the attribute of a DEFINED entry, latched or not (R60); SCHED_CLEAR empties an unlatched one (R61). A
latched entry is BUSY to a write and a clear, an EMPTY one NOT_FOUND to an enable. -/
def Obligations.ScheduleRequestsWriteEntries : Prop :=
  ∀ (s : State) (tag : Byte) (i : EntryNo), Listening s →
    let written (e : Option SchedEntry) : State := { s with schedule := s.schedule.set i e }
    (∀ p : List Byte, p.length = 21 → (schedChecks p).all id = true → u8 p 0 = i.val →
      ((∀ e, s.schedule[i] = some e → e.latched = false) →
        exec (.schedWrite tag p) s =
          .next
            ((written
              (some
                { enabled := decide (u8 p 1 = 1), latched := false, stamp := (s.schedule[i]).bind fun e => e.stamp
                  pattern := patternOf p, priority := u8 p 10, mode := Mode.ofCode (u8 p 11), maxWait := u16 p 12
                  action := (actionFields p 9).action })).answering 0x30 tag .ok []))
      ∧ ∀ e, s.schedule[i] = some e → e.latched = true →
        exec (.schedWrite tag p) s = .next (s.answering 0x30 tag .busy []))
    ∧ (∀ on : Bool,
      (∀ e, s.schedule[i] = some e →
        exec (.schedEnable tag [byteOf i.val, if on then 1 else 0]) s =
          .next ((written (some { e with enabled := on })).answering 0x32 tag .ok []))
      ∧ (s.schedule[i] = none →
        exec (.schedEnable tag [byteOf i.val, if on then 1 else 0]) s = .next (s.answering 0x32 tag .notFound [])))
    ∧ ((∀ e, s.schedule[i] = some e → e.latched = false) →
      exec (.schedClear tag [byteOf i.val]) s = .next ((written none).answering 0x33 tag .ok []))
    ∧ ∀ e, s.schedule[i] = some e → e.latched = true →
      exec (.schedClear tag [byteOf i.val]) s = .next (s.answering 0x33 tag .busy [])

/-- What SCHED_WRITE and BELL_WRITE store, SCHED_READ and BELL_READ give back byte for byte: an entry's fields 2 to 16
"as last written", and a bell's configuration (R12, R48, R49, R59, R209). -/
def Obligations.StoredFieldsReadBackAsWritten : Prop :=
  (∀ p : List Byte, p.length = 21 → (schedChecks p).all id = true →
    let f := actionFields p 9
    (patternOf p).bytes ++ [f.action.kindByte, byteOf f.priority, (Mode.ofCode f.mode).code] ++ bigEndian 2 f.maxWait
      ++ f.action.bytes = p.drop 2)
  ∧ ∀ p : List Byte, p.length = 13 → (configChecks p).all id = true →
    (configFields p).bytes (Fin.ofNat 64 (u8 p 0)) = p

/-! ## Cues -/

/-- The action a PLAY or an entry makes at a calendar second: a COUNT's strokes are derived there (R45). -/
def madeAction (a : ActionSpec) (t : CalTime) : Action :=
  match a with
  | .score slot beat repeats => .score slot beat repeats
  | .count bell velocity interval .hour12 =>
    .count bell velocity interval (if t.hour % 12 = 0 then 12 else t.hour % 12)
  | .count bell velocity interval .quarter =>
    .count bell velocity interval (if t.minute / 15 = 0 then 4 else t.minute / 15)
  | .count bell velocity interval (.fixed n) => .count bell velocity interval n

/-- The cue that an accepted PLAY makes (R64, R71). -/
def playCue (s : State) (p : List Byte) (id : Nat) : Cue :=
  { id := id, source := .direct, action := madeAction (actionFields p 0).action s.calendar.time, priority := u8 p 1
    mode := match (actionFields p 0).action with
      | .score .. => Mode.ofCode (u8 p 2)
      | .count .. => .firm
    maxWait := u16 p 3, entryTime := s.stb, started := false, saved := none
    counters := { planned := 0, fired := 0, firedLate := 0, dropped := 0, suspensions := 0 } }

/-- A PLAY passes its first three checks: fields, the slot's readiness, the calendar (R71). -/
def PlayPasses (s : State) (p : List Byte) : Prop :=
  p.length = 12 ∧ (actionChecks (actionFields p 0)).all id = true
    ∧ (∀ slot beat repeats, (actionFields p 0).action = .score slot beat repeats → s.scores.slots[slot].state = .ready)
    ∧ ((actionFields p 0).action.readsClock = true → s.calendar.valid = true)

/-- The store with the slot of an action referred to once more (R28). -/
def referredTo (s : State) (a : Action) : ScoreStore :=
  match a with
  | .score slot _ _ =>
    { s.scores with
      slots := s.scores.slots.set slot
        { s.scores.slots[slot] with refCount := s.scores.slots[slot].refCount + 1 } }
  | .count .. => s.scores

/-- A cue with its id given has joined the list, which counts on from its id, and its slot is referred to (R65 to R67). -/
def joinedList (s : State) (c : Cue) : State :=
  { s with
    cues := { waiting := insertCue c s.cues.waiting, nextId := if c.id = 255 then 1 else c.id + 1 }
    scores := referredTo s c.action }

/-- The header that a stint of an action goes by: its slot's, and all 0 for a COUNT (R75, R103). -/
def stintHeader (s : State) (a : Action) : Header :=
  match a with
  | .score slot _ _ => s.scores.slots[slot].headerOrZero
  | .count .. => { recordCount := 0, defaultBeat := 0, repeats := 0, repeatGap := 0 }

/-- The base beat of an action: its override, and for 0 the header's (R64, R103). -/
def stintBeat (s : State) (a : Action) : Nat :=
  match a with
  | .score _ override _ => if override = 0 then (stintHeader s a).defaultBeat else override
  | .count .. => 0

/-- The base repeats of an action: its override, and for 0 the header's (R64, R103). -/
def stintRepeats (s : State) (a : Action) : Nat :=
  match a with
  | .score _ _ override => if override = 0 then (stintHeader s a).repeats else override
  | .count .. => 0

/-- The context that a stint of a cue starts from: the saved one, else the beginning (R75). -/
def stintContext (s : State) (c : Cue) : Context :=
  c.saved.getD { index := 0, repeats := stintRepeats s c.action, beat := stintBeat s c.action }

/-- A cue taken from the list as the current performance, its stint starting at this STB (R74, R75). -/
def taken (s : State) (c : Cue) : Performance :=
  { cue := { c with started := true }, context := stintContext s c, fromSaved := c.saved.isSome, start := s.stb
    origin := s.stb + 1000, yield := none }

/-- The engine with a performance current in STARTING (R75). -/
def enginePlays (s : State) (p : Performance) : Engine := { s.engine with state := .starting, current := some p }

/-- The engine IDLE, with no current performance. -/
def engineIdle (s : State) : Engine := { s.engine with state := .idle, current := none }

/-- The planner at the start of a cue's stint, with its context logged as phrase 0 at the origin (R75, R103), and with the
shadows given. -/
def stintPlanner (s : State) (c : Cue) (shadow : Vector Stb 64) : Planner :=
  let x := stintContext s c
  { state := .planning
    stint := some
      { cueId := c.id, action := c.action, origin := s.stb + 1000, header := stintHeader s c.action
        baseBeat := stintBeat s c.action, baseRepeats := stintRepeats s c.action
        cursor := { index := x.index, repeats := x.repeats, beat := x.beat, remainder := 0, point := s.stb + 1000 } }
    stall := none
    log := [{ phrase := 0, index := x.index, repeats := x.repeats, beat := x.beat, sound := s.stb + 1000 }]
    phrase := 0, shadow := shadow }

/-- The planner without a stint: all but the shadows cleared (R123). -/
def plannerAtRest (s : State) : Planner :=
  { state := .idle, stint := none, stall := none, log := [], phrase := 0, shadow := s.planner.shadow }

/-- The PERF_START of a cue's first take (R74). -/
def firstTake (c : Cue) : Option Notice := if c.started then none else some (.perfStart c.id c.source c.action)

/-- PLAY with an IDLE engine and an empty list: the cue, with the next id, is admitted and taken at once; its stint starts
from the beginning with origin STB + 1000, the planner begins with the stint's context logged, and PERF_START is queued
behind the reply (R65, R67, R71, R74, R75, R103). -/
def Obligations.PlayIsTakenByIdleEngine : Prop :=
  ∀ (s : State) (tag : Byte) (p : List Byte), Listening s → PlayPasses s p → s.engine.state = .idle →
    s.engine.current = none → s.engine.held = none → s.cues.waiting = [] → 1 ≤ s.cues.nextId → s.cues.nextId ≤ 255 →
      let cue := playCue s p s.cues.nextId
      let header : Header := match cue.action with
        | .score slot _ _ => s.scores.slots[slot].headerOrZero
        | .count .. => { recordCount := 0, defaultBeat := 0, repeats := 0, repeatGap := 0 }
      let beat := match cue.action with
        | .score _ override _ => if override = 0 then header.defaultBeat else override
        | .count .. => 0
      let repeats := match cue.action with
        | .score _ _ override => if override = 0 then header.repeats else override
        | .count .. => 0
      let taken : State :=
        { s with
          cues := { waiting := [], nextId := if s.cues.nextId = 255 then 1 else s.cues.nextId + 1 }
          scores := referredTo s cue.action
          engine :=
            { s.engine with
              state := .starting
              current := some
                { cue := { cue with started := true }, context := { index := 0, repeats := repeats, beat := beat }
                  fromSaved := false, start := s.stb, origin := s.stb + 1000, yield := none } }
          planner :=
            { state := .planning
              stint := some
                { cueId := cue.id, action := cue.action, origin := s.stb + 1000, header := header, baseBeat := beat
                  baseRepeats := repeats
                  cursor := { index := 0, repeats := repeats, beat := beat, remainder := 0, point := s.stb + 1000 } }
              stall := none
              log := [{ phrase := 0, index := 0, repeats := repeats, beat := beat, sound := s.stb + 1000 }]
              phrase := 0
              shadow := s.planner.shadow } }
      exec (.play tag p) s =
        .next ((taken.raise (.perfStart cue.id .direct cue.action)).answering 0x40 tag .ok [byteOf cue.id])

/-- PLAY to an engine that neither takes nor gives way: with room the cue waits where R66 puts it, with a free id, and is
counted for its slot; with a full list whose last cue is of worse priority that cue leaves, ends EVICTED, and its id is free
for the newcomer; else it is LIST_FULL and changes nothing (R65 to R67, R70, R71, R79). A slot not READY is NOT_FOUND, and
an hour or quarter count without a valid calendar NO_TIME (R71). -/
def Obligations.PlayWaitsOrIsRefused : Prop :=
  ∀ (s : State) (tag : Byte) (p : List Byte), Listening s →
    (PlayPasses s p →
      (s.engine.state = .held ∨ s.engine.state = .yielding ∨ s.engine.state = .draining
        ∨ ((s.engine.state = .starting ∨ s.engine.state = .playing)
          ∧ ∃ q, s.engine.current = some q ∧ (q.cue.priority ≤ u8 p 1 ∨ q.cue.mode = .firm))) →
        let joined (u : State) : Out :=
          .next ((joinedList u (playCue s p u.newId)).answering 0x40 tag .ok [byteOf u.newId])
        (s.cues.waiting.length < 16 → exec (.play tag p) s = joined s)
        ∧ ∀ front last, s.cues.waiting = front ++ [last] → 16 ≤ s.cues.waiting.length → u8 p 1 < last.priority →
          exec (.play tag p) s =
            joined (State.endCue { s with cues := { s.cues with waiting := front } } last .evicted))
    ∧ (PlayPasses s p → ∀ front last, s.cues.waiting = front ++ [last] → 16 ≤ s.cues.waiting.length →
      last.priority ≤ u8 p 1 → exec (.play tag p) s = .next (s.answering 0x40 tag .listFull []))
    ∧ (p.length = 12 → (actionChecks (actionFields p 0)).all id = true →
      (∀ slot beat repeats, (actionFields p 0).action = .score slot beat repeats →
        s.scores.slots[slot].state ≠ .ready → exec (.play tag p) s = .next (s.answering 0x40 tag .notFound []))
      ∧ ((actionFields p 0).action.readsClock = true → s.calendar.valid = false →
        exec (.play tag p) s = .next (s.answering 0x40 tag .noTime [])))

/-- A cue ends (R70): its END notice is queued with the cause and the counters, its slot's reference count falls by 1,
and its entry's latch clears; nothing else changes. -/
def Obligations.CueEndReleases : Prop :=
  ∀ (s : State) (c : Cue) (cause : EndCause),
    s.endCue c cause =
      { s.raise (.cueEnd c.id cause c.counters) with
        scores := match c.action with
          | .score slot _ _ =>
            { s.scores with
              slots := s.scores.slots.set slot
                { s.scores.slots[slot] with refCount := s.scores.slots[slot].refCount - 1 } }
          | .count .. => s.scores
        schedule := match c.source with
          | .direct => s.schedule
          | .schedule i =>
            match s.schedule[i] with
            | none => s.schedule
            | some e => s.schedule.set i (some { e with latched := false }) }

/-- The shadows after a removal of the entries `gone`, the channels standing then as given (R120): a bell that lost an entry
has its shadow behind its last remaining entry; with none remaining, at the recovery end of a FIRING or RECOVERING channel;
else at the STB. A bell that lost none keeps its shadow. -/
def ShadowsAfter (s : State) (channels : Vector Channel 64) (gone : StrikeEntry → Bool) (shadow : Vector Stb 64) :
    Prop :=
  ∀ b : Bell,
    ((∀ e ∈ s.queue, e.bell = b → gone e = false) → shadow[b] = s.planner.shadow[b])
    ∧ (∀ lost ∈ s.queue, lost.bell = b → gone lost = true →
      (∀ ahead e behind, s.queue = ahead ++ e :: behind → e.bell = b → gone e = false →
        (∀ x ∈ behind, x.bell = b → gone x = true) →
          shadow[b] = e.earliest + e.width + s.bells[b].config.recovery)
      ∧ ((∀ e ∈ s.queue, e.bell = b → gone e = true) →
        (∀ p, channels[b].state = .firing → channels[b].pulseEnd = some p →
          shadow[b] = p + s.bells[b].config.recovery)
        ∧ (channels[b].state = .recovering → shadow[b] = channels[b].recoveryEnd)
        ∧ (channels[b].state ≠ .firing → channels[b].state ≠ .recovering → shadow[b] = s.stb)))

/-- The engine with the entries `gone` counted as dropped for the current performance, as far as they are its (R94, R139). -/
def droppedFor (s : State) (gone : StrikeEntry → Bool) : Engine :=
  { s.engine with
    current := s.engine.current.map fun p =>
      let n := (s.queue.filter fun e => gone e && e.ofCue p.cue.id).length
      { p with
        cue :=
          { p.cue with
            counters :=
              { p.cue.counters with
                dropped := if n = 0 then p.cue.counters.dropped else min (p.cue.counters.dropped + n) 65535 } } } }

/-- STOP of the current performance (R93): its entries leave, each counted as dropped; the planner ends its stint; the cue
ends ABORTED; the shadows follow R120; the engine is IDLE with an empty list, and with a cue waiting it takes the head at
once (R74, R75). STOP of the held performance or of a listed cue ends it CANCELLED, the engine staying as it is; an id that
names nothing is NOT_FOUND (R93). -/
def Obligations.StopEndsCue : Prop :=
  (∀ (s : State) (tag n : Byte) (q : Performance), Listening s → s.engine.current = some q →
     n.toNat = 0 ∨ n.toNat = q.cue.id → s.cues.waiting = [] → q.cue.counters.dropped ≤ 65535 →
       ∃ u, exec (.stop tag [n]) s = .next (u.answering 0x41 tag .ok [])
         ∧ u.queue = (s.queue.filter fun e => !e.ofCue q.cue.id)
         ∧ u.engine = { s.engine with state := .idle, current := none }
         ∧ u.planner.state = .idle ∧ u.planner.stint = none ∧ u.planner.stall = none ∧ u.planner.log = []
         ∧ u.planner.phrase = 0
         ∧ ShadowsAfter s s.channels (fun e => e.ofCue q.cue.id) u.planner.shadow
         ∧ u.notices =
           (s.raise
             (.cueEnd q.cue.id .aborted
               { q.cue.counters with
                 dropped := min (q.cue.counters.dropped
                   + (s.queue.filter fun e => e.ofCue q.cue.id).length) 65535 })).notices
         ∧ u.scores = (s.endCue q.cue .aborted).scores ∧ u.schedule = (s.endCue q.cue .aborted).schedule
         ∧ Touches [.queue, .engine, .planner, .notices, .scores, .schedule] s u)
  ∧ (∀ (s : State) (tag n : Byte) (q : Performance) (head : Cue) (rest : List Cue), Listening s →
      s.engine.current = some q → n.toNat = 0 ∨ n.toNat = q.cue.id → s.cues.waiting = head :: rest →
      q.cue.counters.dropped ≤ 65535 →
        let gone (e : StrikeEntry) : Bool := e.ofCue q.cue.id
        let aborted : Cue :=
          { q.cue with
            counters :=
              { q.cue.counters with
                dropped := min (q.cue.counters.dropped + (s.queue.filter gone).length) 65535 } }
        ∃ shadow, ShadowsAfter s s.channels gone shadow
          ∧ exec (.stop tag [n]) s =
            .next
              (State.answering
                (State.raiseOption
                  (State.endCue
                    { s with
                      queue := s.queue.filter fun e => !gone e, cues := { s.cues with waiting := rest }
                      engine := enginePlays s (taken s head), planner := stintPlanner s head shadow }
                    aborted .aborted)
                  (firstTake head))
                0x41 tag .ok []))
  ∧ ∀ (s : State) (tag n : Byte), Listening s →
      (∀ q, s.engine.current = some q → n.toNat ≠ 0 ∧ n.toNat ≠ q.cue.id) →
        (∀ h, s.engine.held = some h → n.toNat = h.cue.id →
          exec (.stop tag [n]) s =
            .next
              ((State.endCue { s with engine := { s.engine with held := none } } h.cue .cancelled).answering 0x41 tag
                .ok []))
        ∧ ((∀ h, s.engine.held = some h → n.toNat ≠ h.cue.id) →
          (∀ before c after, s.cues.waiting = before ++ c :: after → c.id = n.toNat →
            (∀ x ∈ before ++ after, x.id ≠ n.toNat) →
              exec (.stop tag [n]) s =
                .next
                  ((State.endCue { s with cues := { s.cues with waiting := before ++ after } } c .cancelled).answering
                    0x41 tag .ok []))
          ∧ ((∀ x ∈ s.cues.waiting, x.id ≠ n.toNat) →
            exec (.stop tag [n]) s = .next (s.answering 0x41 tag .notFound [])))

/-- A listed cue whose wait has run out from its entry leaves the list and ends EXPIRED (R69), a held one whose wait has
run out from the hold's start ends EXPIRED with the engine still HELD (R92); with max wait 0 neither does, and the
command then changes nothing (log 3). -/
def Obligations.WaitsRunOut : Prop :=
  ∀ s : State, s.supply.operating = true →
    (∀ (n : Byte) (before : List Cue) (c : Cue) (after : List Cue), s.cues.waiting = before ++ c :: after →
      c.id = n.toNat → (∀ x ∈ before ++ after, x.id ≠ n.toNat) →
        (0 < c.maxWait → c.entryTime + c.maxWait * 1000 ≤ s.stb →
          exec (.cueExpiry n) s =
            .next (State.endCue { s with cues := { s.cues with waiting := before ++ after } } c .expired).choose)
        ∧ (c.maxWait = 0 ∨ s.stb < c.entryTime + c.maxWait * 1000 → exec (.cueExpiry n) s = .next s.choose))
    ∧ (∀ h, s.engine.state = .held → s.engine.held = some h →
      (0 < h.cue.maxWait → s.engine.holdStart + h.cue.maxWait * 1000 ≤ s.stb →
        exec .heldExpiry s =
          .next (State.endCue { s with engine := { s.engine with held := none } } h.cue .expired).choose)
      ∧ (h.cue.maxWait = 0 ∨ s.stb < s.engine.holdStart + h.cue.maxWait * 1000 →
        exec .heldExpiry s = .next s.choose))

/-! ## Performances -/

/-- At the origin STARTING gives way to PLAYING, or to DRAINING with the planner done (R76). A DRAINING performance with
no entry left completes: END COMPLETED, its cue released, and the engine IDLE, or in STARTING with the head of the list
and its PERF_START (R70, R74, R75, R78). -/
def Obligations.OriginAndCompletion : Prop :=
  ∀ (s : State) (p : Performance), s.supply.operating = true → s.engine.current = some p →
    (s.engine.state = .starting → p.origin ≤ s.stb →
      exec .stintOrigin s =
        .next
          (State.choose
            { s with
              engine :=
                { s.engine with state := if s.planner.state = .done then .draining else .playing } }))
    ∧ (s.engine.state = .draining → (∀ e ∈ s.queue, e.ofCue p.cue.id = false) →
      (s.cues.waiting = [] →
        exec .performanceComplete s =
          .next
            (State.endCue
              { s with
                engine := engineIdle s, planner := plannerAtRest s }
              p.cue .completed).choose)
      ∧ ∀ c rest, s.cues.waiting = c :: rest →
        exec .performanceComplete s =
          .next
            (State.raiseOption
              (State.endCue
                { s with
                  cues := { s.cues with waiting := rest }, engine := enginePlays s (taken s c)
                  planner := stintPlanner s c s.planner.shadow }
                p.cue .completed)
              (firstTake c)).choose)

/-- The cue of a suspended performance as it is given back (R68, R86): the context saved, one suspension more. -/
def suspended (s : State) (p : Performance) (at_ : Context) : Cue :=
  { p.cue with
    saved := some at_, entryTime := s.stb
    counters := { p.cue.counters with suspensions := min (p.cue.counters.suspensions + 1) 65535 } }

/-- A suspension at a context has completed (R86), with the queue and the shadows given. The head of the list, if there is
one, is current in STARTING; an INTERRUPTIBLE cue waits with the context saved, END SUSPENDED, and an ABORTABLE one has
ended PREEMPTED; then comes the head's PERF_START. With an empty list (R87) the INTERRUPTIBLE cue is itself taken again, and
an ABORTABLE one leaves the engine IDLE. -/
def SuspensionEnds (s : State) (out : Out) (p : Performance) (at_ : Context) (queue : List StrikeEntry)
    (shadow : Vector Stb 64) : Prop :=
  let back := suspended s p at_
  let playing (c : Cue) (waiting : List Cue) : State :=
    { s with
      queue := queue, engine := enginePlays s (taken s c), planner := stintPlanner s c shadow
      cues := { s.cues with waiting := waiting } }
  let notice : Notice := .cueEnd p.cue.id .suspended back.counters
  (∀ head rest, s.cues.waiting = head :: rest →
    (p.cue.mode = .interruptible →
      out = .next (((playing head (insertCue back rest)).raise notice).raiseOption (firstTake head)).choose)
    ∧ (p.cue.mode = .abortable →
      out = .next (((playing head rest).endCue p.cue .preempted).raiseOption (firstTake head)).choose))
  ∧ (s.cues.waiting = [] →
    (p.cue.mode = .interruptible →
      out = .next (((playing back []).raise notice).raiseOption (firstTake back)).choose)
    ∧ (p.cue.mode = .abortable →
      out =
        .next
          (State.endCue
            { s with
              queue := queue, engine := engineIdle s, planner := { plannerAtRest s with shadow := shadow } }
            p.cue .preempted).choose))

/-- With a yield point chosen and no entry left, the suspension completes there (R84, R86); with none chosen by the
deadline, the performance is cut: its entries leave uncounted, the shadows following R120, and the suspension completes at
the latest logged context that has come due (R81, R85). The engine takes the head cue, or with an empty list goes on by
itself (R86, R87). -/
def Obligations.SuspensionsGiveWayToHead : Prop :=
  ∀ (s : State) (p : Performance) (y : Yield), s.supply.operating = true →
    s.engine.state = .yielding → s.engine.current = some p → p.yield = some y →
      (∀ point, y.point = some point → (∀ e ∈ s.queue, e.ofCue p.cue.id = false) →
        SuspensionEnds s (exec .suspensionComplete s) p
          { index := point.index, repeats := point.repeats, beat := point.beat } s.queue s.planner.shadow)
      ∧ ∀ older point newer, y.point = none → y.deadline ≤ s.stb → s.planner.log = older ++ point :: newer →
        point.sound ≤ s.stb → (∀ x ∈ newer, s.stb < x.sound) →
          ∃ shadow, ShadowsAfter s s.channels (fun e => e.ofCue p.cue.id) shadow
            ∧ SuspensionEnds s (exec .yieldCut s) p
              { index := point.index, repeats := point.repeats, beat := point.beat }
              (s.queue.filter fun e => !e.ofCue p.cue.id) shadow

/-- What the arrival of a strictly better cue makes of a performance that is not FIRM, in STARTING or PLAYING; the cue stands
in the list of `s` already (R79, R80, R82). -/
def Preempts (s u : State) (p : Performance) : Prop :=
  (s.engine.state = .playing →
    let yielding (point : Option LogContext) : Engine :=
      { s.engine with
        state := .yielding
        current := some
          { p with
            yield := some { start := s.stb, deadline := s.stb + 1000 * s.engine.breathLimit, point := point } } }
    ((∀ c ∈ s.planner.log, c.sound ≤ s.stb) → u = { s with engine := yielding none })
    ∧ ∀ older point newer, s.planner.log = older ++ point :: newer → (∀ c ∈ older, c.sound ≤ s.stb) →
      s.stb < point.sound →
        let gone (e : StrikeEntry) : Bool := e.ofCue p.cue.id && e.ofCueFrom p.cue.id point.phrase
        ∃ shadow, ShadowsAfter s s.channels gone shadow
          ∧ u =
            { s with
              engine := yielding (some point), queue := s.queue.filter fun e => !gone e
              planner :=
                { s.planner with
                  state := if s.planner.state = .idle then .idle else .stopped
                  stall := if s.planner.state = .idle then s.planner.stall else none
                  shadow := shadow } })
  ∧ (s.engine.state = .starting → ∀ head rest, s.cues.waiting = head :: rest →
    ∃ shadow, ShadowsAfter s s.channels (fun e => e.ofCue p.cue.id) shadow
      ∧ u =
        (State.raise
          { s with
            queue := s.queue.filter fun e => !e.ofCue p.cue.id
            cues := { s.cues with waiting := insertCue { p.cue with entryTime := s.stb } rest }
            engine := enginePlays s (taken s head), planner := stintPlanner s head shadow }
          (.cueEnd p.cue.id .suspended p.cue.counters)).raiseOption (firstTake head))

/-- The arrival of a strictly better cue at a performance that is not FIRM (R79): in PLAYING it yields, with the deadline
of the breath wait limit; the earliest logged context in the future is the yield point, from whose phrase on the entries
leave uncounted, and the planner stops; without one the planner goes on (R82). In STARTING it is displaced: its entries
leave, the head is taken, and it waits again, END SUSPENDED with its counters as they stand (R80). Each time the shadows
follow R120. It is so when PLAY is accepted, with room or by an eviction (R67, R71), and when an entry fires, alone of its
second, at the second step (R38, R51, R54). A suspension that no entry holds up completes in a row after it (R84; log 33). -/
def Obligations.PreemptionYieldsOrDisplaces : Prop :=
  (∀ (s : State) (p : Performance) (priority : Nat), s.engine.current = some p → priority < p.cue.priority →
     p.cue.mode ≠ .firm → Preempts s (s.arrival priority) p)
  ∧ (∀ (s : State) (tag : Byte) (bytes : List Byte) (p : Performance), Listening s → PlayPasses s bytes →
      s.engine.current = some p → s.engine.state = .starting ∨ s.engine.state = .playing →
      u8 bytes 1 < p.cue.priority → p.cue.mode ≠ .firm →
        let preempted (u : State) : Prop :=
          ∃ t, Preempts (joinedList u (playCue s bytes u.newId)) t p
            ∧ exec (.play tag bytes) s = .next (t.answering 0x40 tag .ok [byteOf u.newId])
        (s.cues.waiting.length < 16 → preempted s)
        ∧ ∀ front last, s.cues.waiting = front ++ [last] → 16 ≤ s.cues.waiting.length →
          u8 bytes 1 < last.priority →
            preempted (State.endCue { s with cues := { s.cues with waiting := front } } last .evicted))
  ∧ ∀ (s : State) (i : EntryNo) (e : SchedEntry) (p : Performance), s.supply.operating = true →
      s.calendar.stepDue = true → s.calendar.valid = true → s.calendar.time ≠ lastSecond →
      s.engine.current = some p → s.engine.state = .starting ∨ s.engine.state = .playing →
      e.priority < p.cue.priority → p.cue.mode ≠ .firm → s.cues.waiting.length < 16 →
        let now := nextSecond s.calendar.time
        let fires (x : SchedEntry) : Prop :=
          x.enabled = true ∧ x.pattern.matches now = true ∧ x.stamp ≠ some (minuteOf now)
        s.schedule[i] = some e → fires e → e.latched = false →
        (∀ slot beat repeats, e.action = .score slot beat repeats → s.scores.slots[slot].state = .ready) →
        (∀ j x, j ≠ i → s.schedule[j] = some x → ¬ fires x) →
          let entered : State :=
            { joinedList s { scheduledCue i e now with id := s.newId, entryTime := s.stb } with
              calendar := { time := now, valid := true, phase := 0, stepDue := false }
              schedule := s.schedule.set i (some { e with stamp := some (minuteOf now), latched := true }) }
          ∃ t, Preempts entered t p ∧ exec .secondStep s = .next t.choose

/-! ## Holds -/

/-- A channel that a test has given back (R147, R181). -/
def givenBack (c : Channel) (now : Stb) : Channel :=
  { c with
    prior := none, gate := false
    state := match c.prior with
      | some .ready => if c.recoveryEnd ≤ now then .ready else .recovering
      | some p => p
      | none => c.state }

/-- A channel whose test pulse has ended at a moment, with the pulse end that stays in its record: gate off, the recovery
end counted from that moment (R129, R147, R179; a cut's, log 20). -/
def pulseEnded (s : State) (b : Bell) (at_ : Stb) (pulseEnd : Option Stb) : Channel :=
  { s.channels[b] with
    gate := false, pulseEnd := pulseEnd, recoveryEnd := at_ + s.bells[b].config.recovery }

/-- A hold has been entered from a state in which the source stands in the set already (R89): the engine is HELD from this
STB, the performance held at its fallback context and the planner's stint ended; the queue is empty and the shadows follow
(R120); every pulse is cut, its recovery counted from the cut; windows and test are gone, the test's channel given back and
its draw withdrawn; HOLD entering is queued, and the test's TEST_RESULT behind it (R182). -/
def HoldEntered (s u : State) : Prop :=
  u.engine =
      { s.engine with
        state := .held, holdStart := s.stb, settle := none, current := none
        held := match s.engine.current with
          | some p => some { cue := p.cue, context := s.fallback }
          | none => s.engine.held }
    ∧ u.queue = [] ∧ ShadowsAfter s u.channels (fun _ => true) u.planner.shadow
    ∧ u.planner =
      (match s.engine.current with
        | some _ => { plannerAtRest s with shadow := u.planner.shadow }
        | none => { s.planner with shadow := u.planner.shadow })
    ∧ (∀ b : Bell, s.channels[b].state ≠ .testing →
      u.channels[b] =
        if s.channels[b].state = .firing then
          { s.channels[b] with
            state := .recovering, gate := false, pulseEnd := some s.stb
            recoveryEnd := s.stb + s.bells[b].config.recovery }
        else s.channels[b])
    ∧ (∀ b : Bell, s.channels[b].state = .testing →
      u.channels[b] =
        match s.monitor.test with
        | none => s.channels[b]
        | some t =>
          if t.bell = b then
            givenBack (if t.phase = .pulse then pulseEnded s b s.stb (some s.stb) else s.channels[b]) s.stb
          else s.channels[b])
    ∧ (∀ b : Bell, u.channels[b].gate = false)
    ∧ u.reservoir =
      { s.reservoir with
        testDraw := match s.monitor.test with
          | some { phase := .waiting, .. } => none
          | _ => s.reservoir.testDraw }
    ∧ u.monitor = { s.monitor with windows := Vector.replicate 64 none, test := none }
    ∧ u.notices =
      ((s.raise (.hold true s.engine.interlock s.engine.fail)).raiseOption
        (match s.monitor.test with
          | none => none
          | some t =>
            match t.phase with
            | .waiting => some (.testResult t.bell .notFired 0)
            | .pulse => some (.testResult t.bell .interrupted 0)
            | .listening => some (.testResult t.bell .interrupted 0)
            | .settled => none)).notices
    ∧ Touches [.engine, .queue, .planner, .channels, .monitor, .reservoir, .notices] s u

/-- A hold source appears (R88, R89, R157, R158): the interlock held asserted 50 ms, or RAILFL held asserted 50 ms, which
also puts the rail at FAIL with its RAIL notice first and empties the account. In a hold the source, either of the two,
joins the set, a running settle is cancelled, and no HOLD notice is sent (R90). -/
def Obligations.HoldSourceAppears : Prop :=
  ∀ (s : State) (since : Stb), HoldSafe s → s.supply.operating = true → since + 50 ≤ s.stb →
    let settled : Debouncer := { line := true, level := true, since := none }
    (s.engine.ilock.line = true → s.engine.ilock.since = some since →
      (s.engine.state ≠ .held →
        ∃ u, exec .interlockDebounced s = .next u.choose
          ∧ HoldEntered { s with engine := { s.engine with ilock := settled, interlock := true } } u)
      ∧ (s.engine.state = .held →
        exec .interlockDebounced s =
          .next
            (State.choose
              { s with engine := { s.engine with ilock := settled, interlock := true, settle := none } })))
    ∧ (s.reservoir.failing.line = true → s.reservoir.failing.since = some since → s.reservoir.rail ≠ .fail →
      let failed : State :=
        { s.raise (.rail .fail) with
          reservoir := { s.reservoir with rail := .fail, charge := 0, failing := settled }
          engine := { s.engine with fail := true } }
      (s.engine.state ≠ .held → ∃ u, exec (.railDebounced .failing) s = .next u.choose ∧ HoldEntered failed u)
      ∧ (s.engine.state = .held →
        exec (.railDebounced .failing) s =
          .next (State.choose { failed with engine := { s.engine with fail := true, settle := none } })))

/-- A hold source leaves (R88, R90, R157, R159): with the last one gone from a hold the settle begins, 2000 ms ahead; with
one left nothing starts. A change of RAILLO with RAILFL clear moves the rail between NORMAL and LOW with a RAIL notice
and no hold; with RAILFL asserted the rail stays at FAIL, and no notice is sent (R157). -/
def Obligations.HoldSourceLeavesAndRailMoves : Prop :=
  ∀ (s : State) (since : Stb), s.supply.operating = true → since + 50 ≤ s.stb →
    (s.engine.state = .held → s.engine.ilock.line = false → s.engine.ilock.since = some since →
      exec .interlockDebounced s =
        .next
          (State.choose
            { s with
              engine :=
                { s.engine with
                  interlock := false
                  settle := if s.engine.fail then s.engine.settle else some (s.stb + 2000)
                  ilock := { line := false, level := false, since := none } } }))
    ∧ (s.engine.state = .held → s.reservoir.rail = .fail → s.reservoir.failing.line = false →
      s.reservoir.failing.since = some since →
        let level : RailLevel := if s.reservoir.low.level then .low else .normal
        exec (.railDebounced .failing) s =
          .next
            (State.choose
              { s.raise (.rail level) with
                reservoir :=
                  { s.reservoir with rail := level, failing := { line := false, level := false, since := none } }
                engine :=
                  { s.engine with
                    fail := false
                    settle := if s.engine.interlock then s.engine.settle else some (s.stb + 2000) } }))
    ∧ (s.reservoir.failing.level = false → s.reservoir.low.since = some since →
      let level : RailLevel := if s.reservoir.low.line then .low else .normal
      let low : Debouncer := { line := s.reservoir.low.line, level := s.reservoir.low.line, since := none }
      (s.reservoir.rail = .normal ∨ s.reservoir.rail = .low) → s.reservoir.rail ≠ level →
        exec (.railDebounced .low) s =
          .next (State.choose { s.raise (.rail level) with reservoir := { s.reservoir with rail := level, low := low } }))
    ∧ (s.reservoir.failing.level = true → s.reservoir.rail = .fail → s.reservoir.low.since = some since →
      let low : Debouncer := { line := s.reservoir.low.line, level := s.reservoir.low.line, since := none }
      exec (.railDebounced .low) s = .next (State.choose { s with reservoir := { s.reservoir with low := low } }))

/-- The settle ends (R91): HOLD leaving is queued with no source. Without a held performance the engine is IDLE with an
empty list, and else takes the head (R74). A held performance, FIRM or with no better head, resumes in STARTING from its
context, which its cue now carries as saved; one that is not FIRM is displaced at once by a better head (R80), waits again
with that context saved, END SUSPENDED, and the head is taken. -/
def Obligations.SettleEndLeavesHold : Prop :=
  ∀ (s : State) (deadline : Stb), s.supply.operating = true → s.engine.state = .held →
    s.engine.settle = some deadline → deadline ≤ s.stb →
      (s.engine.held = none → s.engine.current = none → s.cues.waiting = [] →
        exec .settleEnd s =
          .next
            (State.choose
              { s.raise (.hold false false false) with
                engine := { s.engine with state := .idle, settle := none }
                planner := plannerAtRest s }))
      ∧ (∀ head rest, s.engine.held = none → s.cues.waiting = head :: rest →
        exec .settleEnd s =
          .next
            (State.choose
              (State.raiseOption
                { s.raise (.hold false false false) with
                  cues := { s.cues with waiting := rest }, planner := stintPlanner s head s.planner.shadow
                  engine := { enginePlays s (taken s head) with settle := none } }
                (firstTake head))))
      ∧ (∀ h head rest, s.engine.held = some h → s.cues.waiting = head :: rest → head.priority < h.cue.priority →
        h.cue.mode ≠ .firm →
          let back : Cue := { h.cue with saved := some h.context, entryTime := s.stb }
          ∃ shadow, ShadowsAfter s s.channels (fun e => e.ofCue h.cue.id) shadow
            ∧ exec .settleEnd s =
              .next
                (State.choose
                  (State.raiseOption
                    { (s.raise (.hold false false false)).raise (.cueEnd h.cue.id .suspended h.cue.counters) with
                      queue := s.queue.filter fun e => !e.ofCue h.cue.id
                      cues := { s.cues with waiting := insertCue back rest }, planner := stintPlanner s head shadow
                      engine := { enginePlays s (taken s head) with settle := none, held := none } }
                    (firstTake head))))
      ∧ ∀ h, s.engine.held = some h →
        (h.cue.mode = .firm ∨ ∀ head ∈ s.cues.waiting.head?, h.cue.priority ≤ head.priority) →
          let resumed : Cue := { h.cue with saved := some h.context }
          exec .settleEnd s =
            .next
              (State.choose
                { s.raise (.hold false false false) with
                  planner := stintPlanner s resumed s.planner.shadow
                  engine :=
                    { s.engine with
                      state := .starting, held := none, settle := none
                      current := some
                        { cue := resumed, context := h.context, fromSaved := true, start := s.stb
                          origin := s.stb + 1000, yield := none } } })

/-! ## The planner -/

/-- The next item of a SCORE stint (R16 to R18, R105, R107, R108, R111): below the record count, the record at the cursor
with its delta converted at the beat in force; behind the last record, with repeats left, a wrap with the repeat gap
converted at the base beat. The conversion is exact: 48 times the advance and the new remainder, which is below 48, make
delta times beat and the old remainder. A COUNT stint's stroke i sounds at O + i intervals (R122). -/
def Obligations.SoundTimesAreExact : Prop :=
  ∀ (s : State) (st : Stint), s.planner.stint = some st →
    (∀ slot beat repeats, st.action = .score slot beat repeats → st.cursor.index < st.header.recordCount →
      let r := recordAt s.scores.mem s.scores.slots[slot].chain st.cursor.index
      r.valid = true →
        ∃ item c, s.nextItem = some (item, c) ∧ c.index = st.cursor.index + 1 ∧ c.repeats = st.cursor.repeats
          ∧ c.beat = st.cursor.beat ∧ st.cursor.point ≤ c.point ∧ c.remainder < 48
          ∧ 48 * (c.point - st.cursor.point) + c.remainder = r.delta * st.cursor.beat + st.cursor.remainder
          ∧ (r.kind = 0 → item = .note (bellOfByte r.b2) r.b3.toNat)
          ∧ (r.kind = 1 → item = .tempo (r.b2.toNat * 256 + r.b3.toNat))
          ∧ (r.kind = 2 → item = if c.index = st.header.recordCount then .lastBreath else .breath))
    ∧ (∀ slot beat repeats, st.action = .score slot beat repeats → st.header.recordCount ≤ st.cursor.index →
      (1 < st.cursor.repeats →
        ∃ c, s.nextItem = some (.wrap, c) ∧ c.index = 0 ∧ c.repeats = st.cursor.repeats - 1 ∧ c.beat = st.baseBeat
          ∧ st.cursor.point ≤ c.point ∧ c.remainder < 48
          ∧ 48 * (c.point - st.cursor.point) + c.remainder =
            st.header.repeatGap * st.baseBeat + st.cursor.remainder)
      ∧ (st.cursor.repeats ≤ 1 → s.nextItem = none))
    ∧ ∀ bell velocity interval strokes, st.action = .count bell velocity interval strokes →
      (st.cursor.index < strokes →
        ∃ c, s.nextItem = some (.note bell velocity, c) ∧ c.index = st.cursor.index + 1
          ∧ c.point = st.origin + st.cursor.index * interval)
      ∧ (strokes ≤ st.cursor.index → s.nextItem = none)

/-- The state with the stint's cursor at `c`, the planner PLANNING, and nothing more within the horizon but something
still to come: what is left when exactly one item has been taken. -/
def OneItemWithin (s : State) (st : Stint) (c : Cursor) : Prop :=
  c.point ≤ s.stb + 1000
    ∧ ∃ later c',
      State.nextItem { s with planner := { s.planner with stint := some { st with cursor := c } } } = some (later, c')
        ∧ s.stb + 1000 < c'.point

/-- The state with the stint's cursor moved to where taking an item has left it (R104, R105). -/
def cursorAt (s : State) (st : Stint) (c : Cursor) : State :=
  { s with planner := { s.planner with stint := some { st with cursor := c } } }

/-- With nothing left to plan the planner is DONE, and the engine hears of it (R109): PLAYING gives way to DRAINING (R77); so
does YIELDING with no yield point, the preemption dropped (R83); in any other state the engine stays as it is (R76). -/
def doneIfNothingLeft (s : State) : State :=
  if s.nextItem.isSome then s
  else
    { s with
      planner := { s.planner with state := .done }
      engine := match s.engine.state, s.engine.current with
        | .playing, _ => { s.engine with state := .draining }
        | .yielding, some p =>
          match p.yield with
          | some { point := none, .. } => { s.engine with state := .draining, current := some { p with yield := none } }
          | _ => s.engine
        | _, _ => s.engine }

/-- A note's target: its sound time less the lead of its bell's learned flight at its velocity (R115, R117). -/
def noteTarget (s : State) (b : Bell) (v : Nat) (c : Cursor) : Stb :=
  c.point - (s.bells[b].flight * velocityFactor v + 512) / 1024

/-- A note's earliest fire time: its target, pushed to its bell's shadow and to the STB (R117). -/
def noteEarliest (s : State) (b : Bell) (v : Nat) (c : Cursor) : Stb :=
  max (noteTarget s b v c) (max s.planner.shadow[b] s.stb)

/-- A note is dropped: its channel is out of service, or it is pushed more than the late limit past its target (R114,
R117). -/
def noteDrops (s : State) (b : Bell) (v : Nat) (c : Cursor) : Prop :=
  ¬ (s.channels[b].state = .ready ∨ s.channels[b].state = .firing ∨ s.channels[b].state = .recovering)
    ∨ s.reservoir.lateLimit < noteEarliest s b v c - noteTarget s b v c

/-- A note's width (R116). -/
def noteWidth (s : State) (b : Bell) (v : Nat) : Nat := (s.bells[b].config.driveWidth * (8 + v) + 8) / 16

/-- The entry of a note that is placed (R116 to R118). -/
def noteEntry (s : State) (st : Stint) (b : Bell) (v : Nat) (c : Cursor) : StrikeEntry :=
  { bell := b, velocity := v, width := noteWidth s b v, cost := noteWidth s b v * s.bells[b].config.coilClass
    target := noteTarget s b v c, earliest := noteEarliest s b v c, sound := c.point
    origin := .performance st.cueId s.planner.phrase }

/-- The engine with a note counted as planned, and perhaps as dropped, for a performance (R121). -/
def noteCounted (s : State) (p : Performance) (dropped : Bool) : Engine :=
  { s.engine with
    current := some
      { p with
        cue :=
          { p.cue with
            counters :=
              { p.cue.counters with
                planned := min (p.cue.counters.planned + 1) 65535
                dropped := if dropped then min (p.cue.counters.dropped + 1) 65535 else p.cue.counters.dropped } } } }

/-- A note has been dropped at planning (R114, R117, R121). -/
def noteDropped (s : State) (st : Stint) (p : Performance) (c : Cursor) : State :=
  { cursorAt s st c with engine := noteCounted s p true }

/-- A note has been placed: its entry in the queue's order, its bell's shadow behind it (R118, R119, R121). -/
def notePlaced (s : State) (st : Stint) (p : Performance) (b : Bell) (v : Nat) (c : Cursor) : State :=
  { s with
    queue := insertEntry (noteEntry s st b v c) s.queue
    planner :=
      { s.planner with
        stint := some { st with cursor := c }
        shadow := s.planner.shadow.set b (noteEarliest s b v c + noteWidth s b v + s.bells[b].config.recovery) }
    engine := noteCounted s p false }

/-- The planner stalled, all else as it was (R113, R118). -/
def stalledFor (s : State) (cause : StallCause) : State :=
  { s with planner := { s.planner with state := .stalled, stall := some cause } }

/-- The planner returned to PLANNING from a stall (R113, R118). -/
def unstalled (s : State) : State := { s with planner := { s.planner with state := .planning, stall := none } }

/-- A NOTE or stroke within the horizon is settled (R104, R114 to R119, R121): dropped on a channel out of service, or
pushed more than the late limit past its target, and counted planned and dropped; else placed with its lead, width and
cost, its bell's shadow moved on, and counted planned. With 96 queued it is not taken and the planner stalls with cause
QUEUE (R118); once room is there, PLANNER_RESUME takes it afresh. A TEMPO record's beat comes in force behind it (R107). An
item that leaves nothing to plan makes the planner DONE, which the engine hears (R77, R83, R109). However many items lie
within the horizon, they are taken in their order, each on the state that the one before left (R104): PLANNER_TAKE takes
the first and goes on as itself, PLANNER_RESUME ends the stall and goes on so (R113, R118), and with nothing to take it
changes nothing (log 3). -/
def Obligations.PlannerSettlesNote : Prop :=
  (∀ (s : State) (st : Stint) (p : Performance) (b : Bell) (v : Nat) (c : Cursor), s.supply.operating = true →
     s.planner.stint = some st → s.engine.current = some p → p.cue.id = st.cueId →
     s.nextItem = some (.note b v, c) → OneItemWithin s st c →
       (s.planner.state = .planning →
         (noteDrops s b v c → exec .plannerTake s = .next (noteDropped s st p c).choose)
         ∧ (¬ noteDrops s b v c →
           (s.queue.length < 96 → exec .plannerTake s = .next (notePlaced s st p b v c).choose)
           ∧ (96 ≤ s.queue.length → exec .plannerTake s = .next (stalledFor s .queue).choose)))
       ∧ (s.planner.state = .stalled → s.planner.stall = some .queue → s.queue.length < 96 →
         (noteDrops s b v c → exec .plannerResume s = .next (noteDropped (unstalled s) st p c).choose)
         ∧ (¬ noteDrops s b v c →
           exec .plannerResume s = .next (notePlaced (unstalled s) st p b v c).choose)))
  ∧ ∀ (s : State) (st : Stint), s.supply.operating = true → s.planner.stint = some st →
      (s.planner.state = .planning →
        ((∀ item c, s.nextItem = some (item, c) → s.stb + 1000 < c.point) → exec .plannerTake s = .next s.choose)
        ∧ ∀ item c, s.nextItem = some (item, c) → c.point ≤ s.stb + 1000 →
          exec .plannerTake s = exec .plannerTake s.takeItem)
      ∧ (s.planner.state ≠ .planning → exec .plannerTake s = .next s.choose)
      ∧ (s.planner.state = .stalled →
        (s.planner.stall = some .queue ∧ s.queue.length < 96 ∨ s.planner.stall = some .log ∧ s.planner.log.length < 4) →
          exec .plannerResume s = exec .plannerTake (unstalled s))
      ∧ (∀ beat c, s.nextItem = some (.tempo beat, c) →
        s.takeItem = doneIfNothingLeft (cursorAt s st { c with beat := beat }))
      ∧ (∀ c, s.nextItem = some (.lastBreath, c) → s.takeItem = doneIfNothingLeft (cursorAt s st c))
      ∧ ∀ b v c p, s.nextItem = some (.note b v, c) → s.engine.current = some p → p.cue.id = st.cueId →
        (noteDrops s b v c → s.takeItem = doneIfNothingLeft (noteDropped s st p c))
        ∧ (¬ noteDrops s b v c →
          (s.queue.length < 96 → s.takeItem = doneIfNothingLeft (notePlaced s st p b v c))
          ∧ (96 ≤ s.queue.length → s.takeItem = stalledFor s .queue))

/-- The context that a breath mark logs (R108, R111). -/
def markOf (s : State) (c : Cursor) : LogContext :=
  { phrase := s.planner.phrase + 1, index := c.index, repeats := c.repeats, beat := c.beat, sound := c.point }

/-- A breath mark has been logged: the phrase counter risen, its context behind those it does not overtake (R108, R111,
R112). -/
def markLogged (s : State) (st : Stint) (c : Cursor) : State :=
  { s with
    planner :=
      { s.planner with
        stint := some { st with cursor := c }, phrase := s.planner.phrase + 1
        log := retire s.stb (s.planner.log ++ [markOf s c]) } }

/-- A breath mark has been logged and is the yield point: the planner has stopped (R83). -/
def markYields (s : State) (st : Stint) (p : Performance) (y : Yield) (c : Cursor) : State :=
  { markLogged s st c with
    planner := { (markLogged s st c).planner with state := .stopped, stall := none }
    engine := { s.engine with current := some { p with yield := some { y with point := some (markOf s c) } } } }

/-- A breath mark within the horizon, a BREATH record or a wrap (R108, R111 to R113): with room in the log the phrase
counter rises and its context is logged, the contexts it overtakes leaving; with 4 logged it is not taken and the planner
stalls with cause LOG. To an engine that yields with no yield point it is the yield point if it sounds by the deadline,
and the planner stops (R83). That holds of the mark alone, and of a mark among other items that the planner takes at the
same moment (R104). When a newer context's sound time comes due, the contexts older than it leave the log, and no others
(R112). -/
def Obligations.BreathMarksAreLoggedAndRetire : Prop :=
  (∀ (s : State) (st : Stint) (item : Item) (c : Cursor), s.supply.operating = true → s.planner.stint = some st →
     s.planner.state = .planning → s.nextItem = some (item, c) → item = .breath ∨ item = .wrap →
       let taken (u : State) : Prop := s.takeItem = u ∧ (OneItemWithin s st c → exec .plannerTake s = .next u.choose)
       (s.planner.log.length < 4 →
         (s.engine.state ≠ .yielding → taken (markLogged s st c))
         ∧ ∀ p y, s.engine.state = .yielding → s.engine.current = some p → p.yield = some y → y.point = none →
           (y.deadline < c.point → taken (markLogged s st c))
           ∧ (c.point ≤ y.deadline → taken (markYields s st p y c)))
       ∧ (s.planner.log.length = 4 → taken (stalledFor s .log)))
  ∧ ∀ (s : State) (older : List LogContext) (c : LogContext) (newer : List LogContext), s.supply.operating = true →
      PlannerOrdered s → s.planner.state ≠ .idle → s.planner.log = older ++ c :: newer → older ≠ [] → c.sound ≤ s.stb →
      (∀ d ∈ newer, s.stb < d.sound) →
        exec .contextRetire s = .next (State.choose { s with planner := { s.planner with log := c :: newer } })

/-! ## The Channel Dispatcher and Striking Power -/

/-- An entry asks for charge: due, not more than the late limit past its target, its channel READY (R131 to R133). -/
def Asks (s : State) (e : StrikeEntry) : Prop :=
  e.earliest ≤ s.stb ∧ s.stb ≤ e.target + s.reservoir.lateLimit ∧ s.channels[e.bell].state = .ready

/-- The channels with one that has just fired an entry (R135). -/
def firedChannels (s : State) (e : StrikeEntry) : Vector Channel 64 :=
  s.channels.set e.bell
    { s.channels[e.bell] with state := .firing, pulseEnd := some (s.stb + e.width), gate := true }

/-- The state once an entry has fired, before its bell's window opens: the entry gone, the charge drawn, the channel FIRING,
and a performance's entry reported as fired, and as late past its target (R94, R135). -/
def fired (s : State) (rest : List StrikeEntry) (e : StrikeEntry) : State :=
  { s with
    queue := rest
    reservoir := { s.reservoir with charge := s.reservoir.charge - e.cost }
    channels := firedChannels s e
    engine := match e.origin, s.engine.current with
      | .performance _ _, some p =>
        { s.engine with
          current := some
            { p with
              cue :=
                { p.cue with
                  counters :=
                    { p.cue.counters with
                      fired := min (p.cue.counters.fired + 1) 65535
                      firedLate :=
                        if e.target < s.stb then min (p.cue.counters.firedLate + 1) 65535
                        else p.cue.counters.firedLate } } } }
      | _, _ => s.engine }

/-- The Flight Monitor has faulted a bell whose record is then `r` (R5, R144, R172): the channel in FAULT, its running
pulse cut with its recovery counted from the cut, its entries gone and counted as dropped (R94, R139), its shadow at the
STB if it lost one (R120), the cause recorded, CHANNEL_FAULT queued, and the monitor as given. -/
def Faulted (s u : State) (b : Bell) (r : BellRecord) (cause : FaultCause) (monitor : Monitor) : Prop :=
  let c := s.channels[b]
  u.channels = s.channels.set b
      (if c.state = .firing then
        { c with state := .fault, gate := false, pulseEnd := some s.stb, recoveryEnd := s.stb + r.config.recovery }
      else { c with state := .fault })
    ∧ u.queue = (s.queue.filter fun e => decide (e.bell ≠ b))
    ∧ u.planner =
      (if ∃ e ∈ s.queue, e.bell = b then { s.planner with shadow := s.planner.shadow.set b s.stb } else s.planner)
    ∧ u.bells = s.bells.set b { r with faultCause := cause }
    ∧ u.notices = (s.raise (.channelFault b cause)).notices ∧ u.monitor = monitor
    ∧ u.engine = droppedFor s (fun e => decide (e.bell = b))

/-- The bell's window is open and AWAITING (R166). -/
def awaits (s : State) (b : Bell) : Bool :=
  match s.monitor.windows[b] with
  | some w => !w.answered
  | none => false

/-- The first entry that asks fires if the charge covers its cost and no test draw waits (R133 to R135): it leaves the
queue, the charge falls by its cost, the channel is FIRING with its gate on until STB plus width, the fired count rises,
and the window opens for the ceiling scaled to the velocity and 20 ms (R166); a window still AWAITING there is a miss, and
as the third in a row it faults the channel NO_IMPACT: the new pulse is cut and no window opens (R167, R171, R172). A
performance's entry is reported as fired, and as late past its target (R94). Its draw refused, it blocks, and nothing fires
(R133); with no entry that asks, nothing fires (log 3). -/
def Obligations.FirstAskingEntryFires : Prop :=
  (∀ (s : State) (ahead behind : List StrikeEntry) (e : StrikeEntry), s.supply.operating = true →
    s.queue = ahead ++ e :: behind → Asks s e → (∀ x ∈ ahead, ¬ Asks s x) →
      (s.reservoir.charge < e.cost ∨ s.reservoir.testDraw ≠ none → exec .entryFire s = .next s.choose)
      ∧ (e.cost ≤ s.reservoir.charge → s.reservoir.testDraw = none →
        (∀ cueId phrase, e.origin = .performance cueId phrase → ∃ p, s.engine.current = some p ∧ p.cue.id = cueId) →
          let r := s.bells[e.bell]
          let struck := min (r.fired + 1) 4294967295
          let f := fired s (ahead ++ behind) e
          ((awaits s e.bell = true → r.misses < 2) →
            exec .entryFire s =
              .next
                (State.choose
                  { f with
                    bells := s.bells.set e.bell
                      { r with fired := struck, misses := if awaits s e.bell then r.misses + 1 else r.misses }
                    monitor :=
                      { s.monitor with
                        windows := s.monitor.windows.set e.bell
                          (some
                            { pulseStart := s.stb, velocity := e.velocity
                              closeTime :=
                                s.stb + ((r.config.ceiling * velocityFactor e.velocity + 63) / 64 + 20)
                              answered := false }) } }))
          ∧ (awaits s e.bell = true → 2 ≤ r.misses →
            ∃ u, exec .entryFire s = .next u.choose
              ∧ Faulted f u e.bell { r with fired := struck, misses := 3 } .noImpact
                { s.monitor with windows := s.monitor.windows.set e.bell none }
              ∧ Touches [.channels, .queue, .planner, .bells, .notices, .monitor, .engine] f u)))
  ∧ ∀ s : State, s.supply.operating = true → (∀ e ∈ s.queue, ¬ Asks s e) → exec .entryFire s = .next s.choose

/-- A due entry more than the late limit past its target leaves, dropped LATE and counted for its performance, with its
bell, its shadow and the other entries as they were (R119, R132, R139, R140); with none, LATE_DROP changes nothing
(log 3). -/
def Obligations.LateEntriesAreDropped : Prop :=
  ∀ s : State, s.supply.operating = true →
    let late (e : StrikeEntry) : Prop := e.earliest ≤ s.stb ∧ e.target + s.reservoir.lateLimit < s.stb
    (∀ ahead e behind, s.queue = ahead ++ e :: behind → late e → (∀ x ∈ ahead, ¬ late x) →
      (e.origin = .direct → exec .lateDrop s = .next (State.choose { s with queue := ahead ++ behind }))
      ∧ ∀ cueId phrase p, e.origin = .performance cueId phrase → s.engine.current = some p → p.cue.id = cueId →
        exec .lateDrop s =
          .next
            (State.choose
              { s with
                queue := ahead ++ behind
                engine :=
                  { s.engine with
                    current := some
                      { p with
                        cue :=
                          { p.cue with
                            counters :=
                              { p.cue.counters with dropped := min (p.cue.counters.dropped + 1) 65535 } } } } }))
    ∧ ((∀ e ∈ s.queue, ¬ late e) → exec .lateDrop s = .next s.choose)

/-- A FIRING channel's pulse end turns the gate off; the channel is RECOVERING, its recovery end the pulse end plus the
recovery time as the record stands, and the pulse end cleared (R136). A RECOVERING channel is READY at its recovery end
(R137). Before, the commands change nothing (log 3). -/
def Obligations.PulseAndRecoveryEnd : Prop :=
  ∀ (s : State) (b : Bell), s.supply.operating = true →
    let c := s.channels[b]
    (∀ p, c.state = .firing → c.pulseEnd = some p →
      (p ≤ s.stb →
        exec (.pulseEnd b) s =
          .next
            (State.choose
              { s with
                channels := s.channels.set b
                  { c with
                    state := .recovering, gate := false, pulseEnd := none
                    recoveryEnd := p + s.bells[b].config.recovery } }))
      ∧ (s.stb < p → exec (.pulseEnd b) s = .next s.choose))
    ∧ (c.state ≠ .firing → exec (.pulseEnd b) s = .next s.choose)
    ∧ (c.state = .recovering → c.recoveryEnd ≤ s.stb →
      exec (.recoveryEnd b) s = .next (State.choose { s with channels := s.channels.set b { c with state := .ready } }))
    ∧ (c.state ≠ .recovering ∨ s.stb < c.recoveryEnd → exec (.recoveryEnd b) s = .next s.choose)

/-- The millisecond's refill step raises the charge by the effective rate, at most to the capacity: the refill rate in
NORMAL; half of it, and at least 1, in LOW; nothing in FAIL (R153; what marks the step as still to be taken is log 2). -/
def Obligations.RefillStepRaisesCharge : Prop :=
  ∀ s : State, s.supply.operating = true → s.refillDue = true →
    exec .refillStep s =
      .next
        (State.choose
          { s with
            refillDue := false
            reservoir :=
              { s.reservoir with
                charge :=
                  min
                    (s.reservoir.charge
                      + (match s.reservoir.rail with
                          | .normal => s.reservoir.refillRate
                          | .low => max (s.reservoir.refillRate / 2) 1
                          | .fail => 0))
                    s.reservoir.capacity } })

/-- SETTINGS_WRITE with its fields in range takes all four, clamps the charge to the capacity, and removes every due entry
that the new limit makes too late, and no other, each counted as dropped for its performance (R94, R98, R139, R149,
R160); that they leave within the request is log 29's. -/
def Obligations.SettingsWriteTakesAll : Prop :=
  ∀ (s : State) (tag : Byte) (p : List Byte), Listening s → p.length = 5 → (settingsChecks p).all id = true →
    let late (e : StrikeEntry) : Bool := decide (e.earliest ≤ s.stb) && decide (e.target + u8 p 1 < s.stb)
    ∃ u, exec (.settingsWrite tag p) s = .next (u.answering 0x44 tag .ok [])
      ∧ u.engine = { droppedFor s late with breathLimit := u8 p 0 }
      ∧ u.reservoir =
        { s.reservoir with
          lateLimit := u8 p 1, capacity := u16 p 2, refillRate := u8 p 4
          charge := min s.reservoir.charge (u16 p 2) }
      ∧ u.queue = (s.queue.filter fun e => !late e)
      ∧ Touches [.engine, .reservoir, .queue] s u

/-- BELL_WRITE in range and within the constraints of R9, on an ABSENT, DISABLED or FAULT channel, takes the nine fields,
sets the learned flight to the seed and the four counts to 0; without a striker the bell is out of service with no fault
and its channel ABSENT, its window gone (R173); with one, ABSENT becomes DISABLED and the rest stays (R10, R146). On any
other channel it is CHANNEL_STATE and changes nothing. -/
def Obligations.BellWriteReplacesRecord : Prop :=
  ∀ (s : State) (tag : Byte) (p : List Byte) (b : Bell), Listening s → p.length = 13 →
    (configChecks p).all id = true → u8 p 0 = b.val →
      let c := configFields p
      let r := s.bells[b]
      let channel := s.channels[b]
      c.floor < c.ceiling → c.floor ≤ c.seed → c.seed ≤ c.ceiling → c.driveWidth < c.recovery →
      c.driveWidth ≤ c.ceiling →
        (channel.state = .absent ∨ channel.state = .disabled ∨ channel.state = .fault →
          exec (.bellWrite tag p) s =
            .next
              (State.answering
                { s with
                  bells := s.bells.set b
                    { config := c, enabled := c.present && r.enabled
                      faultCause := if c.present then r.faultCause else .none, flight := 16 * c.seed, fired := 0
                      strays := 0, misses := 0, outliers := 0 }
                  channels := s.channels.set b
                    { channel with
                      state :=
                        if c.present then (if channel.state = .absent then .disabled else channel.state)
                        else .absent }
                  monitor :=
                    if c.present then s.monitor
                    else { s.monitor with windows := s.monitor.windows.set b none } }
                0x50 tag .ok []))
        ∧ (channel.state = .ready ∨ channel.state = .firing ∨ channel.state = .recovering ∨ channel.state = .testing →
          exec (.bellWrite tag p) s = .next (s.answering 0x50 tag .channelState []))

/-- BELL_ENABLE puts a DISABLED channel into service, READY or, before its recovery end, RECOVERING, and its setting on
(R4, R142); BELL_CLEAR_FAULT returns a FAULT channel to DISABLED, its setting off, its cause and consecutive counts clear
(R4, R5, R7, R145). BELL_DISABLE withdraws a channel in service (R4, R138, R143, R173): DISABLED, a running pulse cut with
its recovery counted from the cut, every entry of the bell gone and counted as dropped (R94, R139), its window abandoned,
its setting off, and the shadow of a bell that lost entries at the STB (R120). In every other state each answers as its
rule says, with the channel's state, and changes nothing. -/
def Obligations.ServiceRequestsMoveChannel : Prop :=
  (∀ (s : State) (tag : Byte) (b : Bell), Listening s →
     let c := s.channels[b]
     let written (state : ChannelState) (r : BellRecord) : State :=
       { s with channels := s.channels.set b { c with state := state }, bells := s.bells.set b r }
     (c.state = .disabled →
       (c.recoveryEnd ≤ s.stb →
         exec (.bellEnable tag [byteOf b.val]) s =
           .next ((written .ready { s.bells[b] with enabled := true }).answering 0x52 tag .ok [2]))
       ∧ (s.stb < c.recoveryEnd →
         exec (.bellEnable tag [byteOf b.val]) s =
           .next ((written .recovering { s.bells[b] with enabled := true }).answering 0x52 tag .ok [4])))
     ∧ (c.state = .ready ∨ c.state = .firing ∨ c.state = .recovering →
       exec (.bellEnable tag [byteOf b.val]) s = .next (s.answering 0x52 tag .ok [c.state.code])
         ∧ exec (.bellClearFault tag [byteOf b.val]) s = .next (s.answering 0x54 tag .channelState [c.state.code]))
     ∧ (c.state = .absent ∨ c.state = .fault ∨ c.state = .testing →
       exec (.bellEnable tag [byteOf b.val]) s = .next (s.answering 0x52 tag .channelState [c.state.code]))
     ∧ (c.state = .fault →
       exec (.bellClearFault tag [byteOf b.val]) s =
         .next
           ((written .disabled
             { s.bells[b] with enabled := false, faultCause := .none, misses := 0, outliers := 0 }).answering 0x54 tag
               .ok [1]))
     ∧ (c.state = .absent ∨ c.state = .disabled →
       exec (.bellClearFault tag [byteOf b.val]) s = .next (s.answering 0x54 tag .channelState [c.state.code]))
     ∧ (c.state = .testing → exec (.bellClearFault tag [byteOf b.val]) s = .next (s.answering 0x54 tag .busy [6])))
  ∧ ∀ (s : State) (tag : Byte) (b : Bell), Listening s →
      let c := s.channels[b]
      (c.state = .ready ∨ c.state = .firing ∨ c.state = .recovering →
        ∃ u, exec (.bellDisable tag [byteOf b.val]) s = .next (u.answering 0x53 tag .ok [1])
          ∧ u.channels = s.channels.set b
            (if c.state = .firing then
              { c with
                state := .disabled, gate := false, pulseEnd := some s.stb
                recoveryEnd := s.stb + s.bells[b].config.recovery }
            else { c with state := .disabled })
          ∧ u.queue = (s.queue.filter fun e => decide (e.bell ≠ b))
          ∧ u.bells = s.bells.set b { s.bells[b] with enabled := false }
          ∧ u.monitor = { s.monitor with windows := s.monitor.windows.set b none }
          ∧ u.planner =
            (if ∃ e ∈ s.queue, e.bell = b then { s.planner with shadow := s.planner.shadow.set b s.stb } else s.planner)
          ∧ u.engine = droppedFor s (fun e => decide (e.bell = b))
          ∧ Touches [.channels, .queue, .bells, .monitor, .planner, .engine] s u)
      ∧ (c.state = .disabled → exec (.bellDisable tag [byteOf b.val]) s = .next (s.answering 0x53 tag .ok [1]))
      ∧ (c.state = .absent ∨ c.state = .fault →
        exec (.bellDisable tag [byteOf b.val]) s = .next (s.answering 0x53 tag .channelState [c.state.code]))
      ∧ (c.state = .testing → exec (.bellDisable tag [byteOf b.val]) s = .next (s.answering 0x53 tag .busy [6]))

/-- STRIKE on an IDLE engine, on a READY or RECOVERING channel, pushed no more than the late limit and with room, places a
DIRECT entry at the larger of the STB and the shadow, answers its two times, and moves the shadow on (R119, R128, R148);
else HELD, BUSY, CHANNEL_STATE or BUSY, in that order, with nothing changed. -/
def Obligations.StrikePlacesDirectEntry : Prop :=
  ∀ (s : State) (tag : Byte) (b : Bell) (v : Nat), Listening s → 1 ≤ v → v ≤ 8 →
    let r := s.bells[b]
    let earliest := max s.stb s.planner.shadow[b]
    let width := (r.config.driveWidth * (8 + v) + 8) / 16
    let sound := s.stb + (r.flight * velocityFactor v + 512) / 1024
    let entry : StrikeEntry :=
      { bell := b, velocity := v, width := width, cost := width * r.config.coilClass, target := s.stb
        earliest := earliest, sound := sound, origin := .direct }
    let inService := s.channels[b].state = .ready ∨ s.channels[b].state = .recovering
    let command := Instr.strike tag [byteOf b.val, byteOf v]
    (s.engine.interlock = true ∨ s.engine.fail = true → exec command s = .next (s.answering 0x55 tag .held []))
    ∧ (s.engine.interlock = false → s.engine.fail = false →
      (s.engine.state ≠ .idle → exec command s = .next (s.answering 0x55 tag .busy []))
      ∧ (s.engine.state = .idle →
        (¬ inService → exec command s = .next (s.answering 0x55 tag .channelState []))
        ∧ (inService →
          (s.reservoir.lateLimit < earliest - s.stb ∨ 96 ≤ s.queue.length →
            exec command s = .next (s.answering 0x55 tag .busy []))
          ∧ (earliest - s.stb ≤ s.reservoir.lateLimit → s.queue.length < 96 →
            exec command s =
              .next
                (State.answering
                  { s with
                    queue := insertEntry entry s.queue
                    planner :=
                      { s.planner with
                        shadow := s.planner.shadow.set b (earliest + width + r.config.recovery) } }
                  0x55 tag .ok (bigEndian 6 earliest ++ bigEndian 6 sound))))))

/-! ## The Flight Monitor -/

/-- The state once a filtered impact of a bell has been recognised: its input is to be seen clear again (R164). -/
def heard (s : State) (b : Bell) : State :=
  { s with monitor := { s.monitor with inputs := s.monitor.inputs.set b .asserted } }

/-- `obs` is a window's observation of an edge, and `index` is the free values' index then: the edge less the pulse start, in
ticks16 (R169), or, for an edge before the pulse start, "a very short flight" (R167, R184): a free value of at most 16
ticks16, 1 ms, which is the model's choice of a bound (log 7). -/
def Observes (s : State) (edge pulseStart obs index : Nat) : Prop :=
  (16 * pulseStart ≤ edge ∧ obs = edge - 16 * pulseStart ∧ index = s.freeIndex)
    ∨ (edge < 16 * pulseStart ∧ obs = Config.freeObservation s.freeIndex % 17 ∧ index = s.freeIndex + 1)

/-- ILOCK, RAILLO and RAILFL take a level (R88, R156): a level unlike the debounced one starts the 50 ms, a return to it
abandons them, the same level again changes nothing. A stopped part takes the level as the start will read it (R203;
log 22). An impact input (R164, R185) asserted while clear starts its 1 ms from this leading edge; asserted while
asserted, nothing; clear, it is clear whatever ran; held for less than 1 ms it gives no impact. A part that is stopped
does not filter: its input is then to be seen clear first. Before their 50 ms are complete, or with no change pending,
INTERLOCK_DEBOUNCED and RAIL_DEBOUNCED change nothing (R88, R156; log 3). A return at the very moment that the 50 ms or the
1 ms completes goes by the order of the commands (log 31). -/
def Obligations.LinesAreDebouncedAndFiltered : Prop :=
  (∀ (s : State) (level : Bool),
     let after (d : Debouncer) : Debouncer :=
       if level = d.line then d
       else { d with line := level, since := if level = d.level then none else some s.stb }
     let unread (d : Debouncer) : Debouncer := { d with line := level }
     (s.supply.operating = true →
       exec (.ilockLineChange level) s =
           .next (State.choose { s with engine := { s.engine with ilock := after s.engine.ilock } })
         ∧ exec (.railLineChange .low level) s =
           .next (State.choose { s with reservoir := { s.reservoir with low := after s.reservoir.low } })
         ∧ exec (.railLineChange .failing level) s =
           .next (State.choose { s with reservoir := { s.reservoir with failing := after s.reservoir.failing } }))
     ∧ (s.supply.operating = false →
       exec (.ilockLineChange level) s = .next { s with engine := { s.engine with ilock := unread s.engine.ilock } }
         ∧ exec (.railLineChange .low level) s =
           .next { s with reservoir := { s.reservoir with low := unread s.reservoir.low } }
         ∧ exec (.railLineChange .failing level) s =
           .next { s with reservoir := { s.reservoir with failing := unread s.reservoir.failing } }))
  ∧ (∀ s : State, s.supply.operating = true →
      let waits (d : Debouncer) : Prop := ∀ since, d.since = some since → s.stb < since + 50
      (waits s.engine.ilock → exec .interlockDebounced s = .next s.choose)
      ∧ (waits s.reservoir.low → exec (.railDebounced .low) s = .next s.choose)
      ∧ (waits s.reservoir.failing → exec (.railDebounced .failing) s = .next s.choose))
  ∧ ∀ (s : State) (b : Bell) (sixteenth : Fin 16),
      let with_ (i : ImpactInput) : State :=
        { s with monitor := { s.monitor with inputs := s.monitor.inputs.set b i } }
      (s.supply.operating = true →
        (s.monitor.inputs[b] = .clear →
          exec (.impactInputAssert b sixteenth) s = .next (with_ (.filtering (16 * s.stb + sixteenth.val))).choose)
        ∧ (s.monitor.inputs[b] ≠ .clear → exec (.impactInputAssert b sixteenth) s = .next s.choose)
        ∧ exec (.impactInputClear b) s = .next (with_ .clear).choose
        ∧ (∀ edge, s.monitor.inputs[b] = .filtering edge → s.stb < edge / 16 + 1 →
          exec (.impactRecognised b) s = .next s.choose)
        ∧ ((∀ edge, s.monitor.inputs[b] ≠ .filtering edge) → exec (.impactRecognised b) s = .next s.choose))
      ∧ (s.supply.operating = false →
        (s.monitor.inputs[b] = .clear → exec (.impactInputAssert b sixteenth) s = .next (with_ .asserted))
        ∧ exec (.impactInputClear b) s = .next (with_ .clear))

/-- A recognised impact goes by the first row that applies (R165): ignored under the interlock and on an ABSENT channel; on
a TESTING one the first in the test window is the test's observation, its edge less the pulse start, which settles a
LISTENING test, EARLY below the limit and so for an edge before the pulse start (R180), and any other is ignored; an
ANSWERED window ignores it (R168); without a window it is a stray, counted to 255, with STRAY_IMPACT on the first (R174).
The moment of recognition, in whole milliseconds, is log 24's. -/
def Obligations.ImpactsAreRouted : Prop :=
  ∀ (s : State) (b : Bell) (edge : Nat), s.supply.operating = true → s.monitor.inputs[b] = .filtering edge →
    edge / 16 + 1 ≤ s.stb →
      let h := heard s b
      let state := s.channels[b].state
      let command := Instr.impactRecognised b
      let strayed (n : Nat) : State := { h with bells := s.bells.set b { s.bells[b] with strays := n } }
      (s.engine.interlock = true ∨ state = .absent → exec command s = .next h.choose)
      ∧ (s.engine.interlock = false → state ≠ .absent → state ≠ .testing →
        (s.monitor.windows[b] = none →
          (s.bells[b].strays = 0 → exec command s = .next ((strayed 1).raise (.strayImpact b)).choose)
          ∧ (0 < s.bells[b].strays →
            exec command s = .next (strayed (min (s.bells[b].strays + 1) 255)).choose))
        ∧ ∀ w, s.monitor.windows[b] = some w → w.answered = true → exec command s = .next h.choose)
      ∧ ∀ t, s.engine.interlock = false → state = .testing → s.monitor.test = some t → t.bell = b →
        (t.observation ≠ none ∨ t.phase = .waiting ∨ t.phase = .settled → exec command s = .next h.choose)
        ∧ ∀ start, t.observation = none → t.pulseStart = some start →
          let obs : Int := edge - 16 * start
          let observed (t : ChannelTest) : State := { h with monitor := { h.monitor with test := some t } }
          (t.phase = .pulse → exec command s = .next (observed { t with observation := some obs }).choose)
          ∧ (t.phase = .listening →
            let result : TestResult := if obs < t.earlyLimit then .early else .ok
            exec command s =
              .next
                ((observed { t with observation := some obs, phase := .settled, result := some result }).raise
                  (.testResult b result (if obs < t.earlyLimit then 0 else obs.toNat))).choose)

/-- An AWAITING window takes an impact as its observation, and is ANSWERED (R168; for an edge before the pulse start the
value is free and its bound is log 7's; the moment of recognition is log 24's). Referred to velocity 8 it is accepted,
or an outlier when more than a quarter of the learned flight away (R169). Accepted, both counts clear, and with learning
on the flight moves an eighth of the way, within floor and ceiling (R170). An outlier clears the misses and counts; the
sixth in a row faults the channel ERRATIC (R171, R172). -/
def Obligations.ObservationsAreJudged : Prop :=
  ∀ (s : State) (b : Bell) (edge : Nat) (w : Window) (obs index : Nat), s.supply.operating = true →
    s.monitor.inputs[b] = .filtering edge → edge / 16 + 1 ≤ s.stb → s.engine.interlock = false →
    s.channels[b].state ≠ .absent → s.channels[b].state ≠ .testing → s.monitor.windows[b] = some w →
    w.answered = false → Observes s edge w.pulseStart obs index →
      let r := s.bells[b]
      let f := velocityFactor w.velocity
      let referred := (obs * 64 + f / 2) / f
      let away := if referred ≤ r.flight then r.flight - referred else referred - r.flight
      let learned := (7 * r.flight + referred + 4) / 8
      let answered : Monitor :=
        { (heard s b).monitor with windows := s.monitor.windows.set b (some { w with answered := true }) }
      let judged (r : BellRecord) : State :=
        { s with monitor := answered, freeIndex := index, bells := s.bells.set b r }
      (away * 4 ≤ r.flight →
        exec (.impactRecognised b) s =
          .next
            (judged
              { r with
                misses := 0, outliers := 0
                flight :=
                  if r.config.learning then
                    (if learned < 16 * r.config.floor then 16 * r.config.floor
                     else if 16 * r.config.ceiling < learned then 16 * r.config.ceiling else learned)
                  else r.flight }).choose)
      ∧ (r.flight < away * 4 →
        (r.outliers < 5 →
          exec (.impactRecognised b) s =
            .next (judged { r with misses := 0, outliers := r.outliers + 1 }).choose)
        ∧ (5 ≤ r.outliers →
          s.channels[b].state = .ready ∨ s.channels[b].state = .firing ∨ s.channels[b].state = .recovering →
            ∃ u, exec (.impactRecognised b) s = .next u.choose ∧ u.freeIndex = index
              ∧ Faulted s u b { r with misses := 0, outliers := 6 } .erratic answered
              ∧ Touches [.channels, .queue, .planner, .bells, .notices, .monitor, .engine, .freeIndex] s u))

/-- A window closes at its close time (R168): ANSWERED, nothing else changes; AWAITING, it is a miss, and the third in a row
faults the channel NO_IMPACT (R171, R172). Before it, or with no window, WINDOW_CLOSE changes nothing (log 3). -/
def Obligations.WindowsCloseOrMiss : Prop :=
  ∀ (s : State) (b : Bell), s.supply.operating = true →
    let r := s.bells[b]
    let closed : Monitor := { s.monitor with windows := s.monitor.windows.set b none }
    (s.monitor.windows[b] = none → exec (.windowClose b) s = .next s.choose)
    ∧ ∀ w, s.monitor.windows[b] = some w →
      (s.stb < w.closeTime → exec (.windowClose b) s = .next s.choose)
      ∧ (w.closeTime ≤ s.stb →
        (w.answered = true → exec (.windowClose b) s = .next (State.choose { s with monitor := closed }))
        ∧ (w.answered = false → r.misses < 2 →
          exec (.windowClose b) s =
            .next (State.choose { s with monitor := closed, bells := s.bells.set b { r with misses := r.misses + 1 } }))
        ∧ (w.answered = false → 2 ≤ r.misses →
          s.channels[b].state = .ready ∨ s.channels[b].state = .firing ∨ s.channels[b].state = .recovering →
            ∃ u, exec (.windowClose b) s = .next u.choose ∧ Faulted s u b { r with misses := 3 } .noImpact closed
              ∧ Touches [.channels, .queue, .planner, .bells, .notices, .monitor, .engine] s u))

/-! ## The channel test -/

/-- TEST_CHANNEL is refused HELD, BUSY, CHANNEL_STATE or BUSY, in that order, and changes nothing (R176); else it is
accepted (R147, R155, R177): the record formed, an open window abandoned, the channel TESTING with its prior state kept,
its entries gone, its shadow at the STB, and the test draw waiting. With no cue current no entry is a performance's. The
shadow from DISABLED and FAULT is log 19. -/
def Obligations.TestAcceptedOrRefused : Prop :=
  ∀ (s : State) (tag : Byte) (b : Bell), Listening s →
    let command := Instr.testChannel tag [byteOf b.val]
    let c := s.channels[b]
    let config := s.bells[b].config
    (s.engine.interlock = true ∨ s.engine.fail = true → exec command s = .next (s.answering 0x56 tag .held []))
    ∧ (s.engine.interlock = false → s.engine.fail = false →
      (s.engine.state ≠ .idle ∨ s.monitor.test ≠ none → exec command s = .next (s.answering 0x56 tag .busy []))
      ∧ (s.engine.state = .idle → s.monitor.test = none →
        (c.state = .absent → exec command s = .next (s.answering 0x56 tag .channelState []))
        ∧ (c.state = .firing ∨ c.state = .recovering ∨ c.state = .testing →
          exec command s = .next (s.answering 0x56 tag .busy []))
        ∧ (c.state = .disabled ∨ c.state = .ready ∨ c.state = .fault → s.engine.current = none →
          exec command s =
            .next
              (State.answering
                { s with
                  queue := s.queue.filter fun e => decide (e.bell ≠ b)
                  planner := { s.planner with shadow := s.planner.shadow.set b s.stb }
                  channels := s.channels.set b { c with state := .testing, prior := some c.state }
                  reservoir := { s.reservoir with testDraw := some (b, config.driveWidth * config.coilClass) }
                  monitor :=
                    { s.monitor with
                      windows := s.monitor.windows.set b none
                      test := some
                        { bell := b, phase := .waiting, acceptedAt := s.stb, deadline := s.stb + 1000
                          width := config.driveWidth, cost := config.driveWidth * config.coilClass
                          windowLength := 2 * config.ceiling + 20, earlyLimit := 8 * config.floor
                          pulseStart := none, pulseEnd := none, minSeen := false, observation := none
                          result := none } } }
                0x56 tag .accepted []))))

/-- The channels with a bell's test pulse ended at a moment. -/
def pulseOver (s : State) (b : Bell) (at_ : Stb) (pulseEnd : Option Stb) : Vector Channel 64 :=
  s.channels.set b (pulseEnded s b at_ pulseEnd)

/-- In WAITING the test pulse starts when the draw waits, the charge covers it and the recovery end has passed (R155, R178):
the charge falls, the gate is on until the pulse end in the channel's record, STB plus width (R129), with minimum current
seen if its line is asserted; an over-current asserted at the start cuts it there, SHORT (R179). At the wait deadline the
test ends NOT_FIRED (R178, R181). Where its condition fails, each of the two commands changes nothing (log 3). -/
def Obligations.TestPulseStartsOrExpires : Prop :=
  ∀ (s : State) (t : ChannelTest), s.supply.operating = true → s.monitor.test = some t →
    let c := s.channels[t.bell]
    let ready := s.reservoir.testDraw ≠ none ∧ t.cost ≤ s.reservoir.charge ∧ c.recoveryEnd ≤ s.stb
    let drawn : Reservoir := { s.reservoir with charge := s.reservoir.charge - t.cost, testDraw := none }
    (t.phase = .waiting → ready →
      (s.monitor.isovr = false →
        exec .testPulseStart s =
          .next
            (State.choose
              { s with
                reservoir := drawn
                channels := s.channels.set t.bell { c with gate := true, pulseEnd := some (s.stb + t.width) }
                monitor :=
                  { s.monitor with
                    test := some
                      { t with
                        phase := .pulse, pulseStart := some s.stb, pulseEnd := some (s.stb + t.width)
                        minSeen := s.monitor.ismin } } }))
      ∧ (s.monitor.isovr = true →
        exec .testPulseStart s =
          .next
            (State.choose
              { s.raise (.testResult t.bell .short 0) with
                reservoir := drawn
                channels := pulseOver s t.bell s.stb (some s.stb)
                monitor :=
                  { s.monitor with
                    test := some
                      { t with
                        phase := .settled, pulseStart := some s.stb, pulseEnd := some s.stb
                        minSeen := s.monitor.ismin, result := some .short } } })))
    ∧ (t.phase ≠ .waiting ∨ ¬ ready → exec .testPulseStart s = .next s.choose)
    ∧ (t.phase = .waiting → t.deadline ≤ s.stb →
      exec .testWaitDeadline s =
        .next
          (State.choose
            { s.raise (.testResult t.bell .notFired 0) with
              reservoir := { s.reservoir with testDraw := none }
              channels := s.channels.set t.bell (givenBack c s.stb)
              monitor := { s.monitor with test := none } }))
    ∧ (t.phase ≠ .waiting ∨ s.stb < t.deadline → exec .testWaitDeadline s = .next s.choose)

/-- The sense lines take their levels (R179; log 12): ISMIN asserted in PULSE marks minimum current as seen, ISOVR asserted
in PULSE cuts the pulse at that moment with the result SHORT, and at any other time each changes nothing but its level.
A test pulse that reaches its end turns the gate off and starts the recovery (R179): OPEN without minimum current; with
it the impact heard meanwhile gives OK with its observation, or EARLY, and without one the test listens on. The window's
close, at its length or at the recovery end, gives NO_IMPACT (R180). A SETTLED test ends at the recovery end, and its
channel returns (R181). Before their moments TEST_PULSE_END, TEST_WINDOW_CLOSE and TEST_END change nothing (log 3). -/
def Obligations.TestIsJudgedAndEnds : Prop :=
  (∀ (s : State) (level : Bool), s.supply.operating = true →
     (∀ t, s.monitor.test = some t → t.phase = .pulse → level = true →
       exec (.isminAssert level) s =
           .next
             (State.choose
               { s with monitor := { s.monitor with ismin := true, test := some { t with minSeen := true } } })
         ∧ exec (.isovrAssert level) s =
           .next
             (State.choose
               { s.raise (.testResult t.bell .short 0) with
                 channels := pulseOver s t.bell s.stb (some s.stb)
                 monitor :=
                   { s.monitor with
                     isovr := true
                     test := some { t with phase := .settled, pulseEnd := some s.stb, result := some .short } } }))
     ∧ (level = false ∨ (∀ t, s.monitor.test = some t → t.phase ≠ .pulse) →
       exec (.isminAssert level) s = .next (State.choose { s with monitor := { s.monitor with ismin := level } })
         ∧ exec (.isovrAssert level) s = .next (State.choose { s with monitor := { s.monitor with isovr := level } })))
  ∧ ∀ (s : State) (t : ChannelTest), s.supply.operating = true → s.monitor.test = some t →
      let c := s.channels[t.bell]
      let settled (result : TestResult) (obs : Nat) (channels : Vector Channel 64) : State :=
        { s.raise (.testResult t.bell result obs) with
          channels := channels
          monitor := { s.monitor with test := some { t with phase := .settled, result := some result } } }
      let ended : State :=
        { s with
          channels := s.channels.set t.bell (givenBack c s.stb), monitor := { s.monitor with test := none } }
      (∀ p, t.phase = .pulse → t.pulseEnd = some p →
        (s.stb < p → exec .testPulseEnd s = .next s.choose)
        ∧ (p ≤ s.stb →
          let rested := pulseOver s t.bell p none
          (t.minSeen = false → exec .testPulseEnd s = .next (settled .coilOpen 0 rested).choose)
          ∧ (t.minSeen = true →
            (t.observation = none →
              exec .testPulseEnd s =
                .next
                  (State.choose
                    { s with
                      channels := rested, monitor := { s.monitor with test := some { t with phase := .listening } } }))
            ∧ ∀ obs, t.observation = some obs →
              (obs < t.earlyLimit → exec .testPulseEnd s = .next (settled .early 0 rested).choose)
              ∧ (t.earlyLimit ≤ obs → exec .testPulseEnd s = .next (settled .ok obs.toNat rested).choose))))
      ∧ (∀ start, t.phase = .listening → t.pulseStart = some start →
        (s.stb < start + t.windowLength → s.stb < c.recoveryEnd → exec .testWindowClose s = .next s.choose)
        ∧ (start + t.windowLength ≤ s.stb → s.stb < c.recoveryEnd →
          exec .testWindowClose s = .next (settled .noImpact 0 s.channels).choose)
        ∧ (c.recoveryEnd ≤ s.stb →
          exec .testWindowClose s = .next (ended.raise (.testResult t.bell .noImpact 0)).choose))
      ∧ (t.phase = .settled → c.recoveryEnd ≤ s.stb → exec .testEnd s = .next ended.choose)
      ∧ (t.phase ≠ .settled ∨ s.stb < c.recoveryEnd → exec .testEnd s = .next s.choose)

/-! ## The Link Port -/

/-- The byte that the receiver makes of a character (R186): a parity mark when the ones of its data and parity bits are odd
in number, a framing mark when the stop bit is at space. -/
def received (data : Byte) (parityBit stopBit : Bool) : RxByte :=
  { data := data, parity := decide (onesBelow data 8 % 2 = 1) != parityBit, framing := !stopBit, overrun := false }

/-- The link with the assembler back in HUNTING and no gap deadline, as a frame's end leaves it (R190). -/
def hunting (l : Link) : Link := { l with assembler := .hunting, gapDeadline := none }

/-- A rejected frame has ended (R191, R194): with the reply buffer empty, REJECT with its reason, KIND and TAG is the reply,
0 standing for a byte never taken; with a reply in it, the frame is held. -/
def rejected (s : State) (reason : RejectReason) (kind tag : Option Byte) : State :=
  { s with
    link :=
      if s.link.reply = none then
        { hunting s.link with
          reply := some { kind := 0xFF, tag := tag.getD 0, payload := [rejectCode reason, kind.getD 0] } }
      else { hunting s.link with ended := some (.rejected reason kind tag) } }

/-- The assembler can take the next character at once: operation, no break, no frame held, nothing in the FIFO, and no gap
deadline passed. -/
def Taking (s : State) : Prop :=
  s.supply.operating = true ∧ s.link.inBreak = false ∧ s.link.ended = none ∧ s.link.fifo = [] ∧ s.link.holdo = false
    ∧ s.gapPassed = false

/-- A character that the assembler takes at once (R187, R190, R192): in HUNTING only SYNC begins a frame; in LENGTH a byte
above 120 ends it, LENGTH; in BODY bytes collect until LEN + 3 are there. In a frame each byte moves the gap deadline
20 ms on. The complete frame is rejected by its earliest mark, overrun before framing before parity; without a mark by
its sum; else it is good, and handed to the Request Handler if the reply buffer is empty (R191, R194). While the
assembler holds a frame, characters wait in the FIFO (R187, R188, R194): HOLDO is asserted as the count reaches 48; with
64 there the character is lost and the newest gains an overrun mark. In a break no character is received (R193). -/
def Obligations.CharactersAreTakenOrWait : Prop :=
  (∀ (s : State) (data : Byte) (parityBit stopBit : Bool), Taking s →
     let b := received data parityBit stopBit
     let command := Instr.byteReceived data parityBit stopBit
     let collecting (a : Assembler) : State :=
       { s with link := { s.link with assembler := a, gapDeadline := some (s.stb + 20) } }
     (s.link.assembler = .hunting →
       (data = 0xC3 → exec command s = .next (collecting .length).choose)
       ∧ (data ≠ 0xC3 → exec command s = .next (State.choose { s with link := hunting s.link })))
     ∧ (s.link.assembler = .length →
       (data.toNat ≤ 120 → exec command s = .next (collecting (.body b [])).choose)
       ∧ (120 < data.toNat → exec command s = .next (rejected s .length none none).choose))
     ∧ (∀ len got, s.link.assembler = .body len got → got.length + 1 < len.data.toNat + 3 →
       exec command s = .next (collecting (.body len (got ++ [b]))).choose)
     ∧ ∀ len kind tag payload, s.link.assembler = .body len (kind :: tag :: payload) →
       payload.length = len.data.toNat →
         let whole := len :: kind :: tag :: (payload ++ [b])
         (∀ before x after, whole = before ++ x :: after →
           (∀ y ∈ before, y.overrun = false ∧ y.framing = false ∧ y.parity = false) →
             (x.overrun = true → exec command s = .next (rejected s .overrun (some kind.data) (some tag.data)).choose)
             ∧ (x.overrun = false → x.framing = true →
               exec command s = .next (rejected s .framing (some kind.data) (some tag.data)).choose)
             ∧ (x.overrun = false → x.framing = false → x.parity = true →
               exec command s = .next (rejected s .parity (some kind.data) (some tag.data)).choose))
         ∧ ((∀ y ∈ whole, y.overrun = false ∧ y.framing = false ∧ y.parity = false) →
           let sum := (whole.map RxByte.data).foldl (· + ·) 0
           (sum ≠ 0 → exec command s = .next (rejected s .check (some kind.data) (some tag.data)).choose)
           ∧ (sum = 0 →
             (s.link.reply = none →
               exec command s =
                 .next
                   (State.choose
                     (State.handleRequest { s with link := hunting s.link } kind.data tag.data
                       (payload.map RxByte.data))))
             ∧ ∀ reply, s.link.reply = some reply →
               exec command s =
                 .next
                   (State.choose
                     { s with
                       link :=
                         { hunting s.link with
                           ended := some (.good kind.data tag.data (payload.map RxByte.data)) } }))))
  ∧ ∀ (s : State) (data : Byte) (parityBit stopBit : Bool) (f : EndedFrame), s.supply.operating = true →
      let b := received data parityBit stopBit
      let command := Instr.byteReceived data parityBit stopBit
      (s.link.inBreak = true → exec command s = .next s.choose)
      ∧ (s.link.inBreak = false → s.link.ended = some f →
        (s.link.fifo.length < 64 →
          exec command s =
            .next
              (State.choose
                { s with
                  link :=
                    { s.link with
                      fifo := s.link.fifo ++ [b]
                      holdo := s.link.holdo || decide (48 ≤ s.link.fifo.length + 1) } }))
        ∧ ∀ front newest, s.link.fifo = front ++ [newest] → 64 ≤ s.link.fifo.length →
          exec command s =
            .next
              (State.choose
                { s with link := { s.link with fifo := front ++ [{ newest with overrun := true }] } }))

/-- A frame whose gap deadline has passed ends TIMEOUT, with its KIND and TAG if they were taken, and 0 for what was not
(R192, R194); at the deadline itself, and with nothing collected, GAP_TIMEOUT changes nothing (log 9). FRAME_REJECT finds
that frame ended TIMEOUT too: a TIMEOUT it commands is that end, and another reason ends a frame that comes after it, which
the assembler does not take while it holds the first (R194; log 9). Else FRAME_REJECT ends a frame for its reason (log 6):
in HUNTING the frame the command names; of a frame being collected, the bytes taken and then the command's, for the
earliest mark taken if there is one, overrun before framing before parity (R191). Before the deadline no frame ends TIMEOUT
(R192), and with LEN taken none ends LENGTH (R190): these change nothing, nor does FRAME_REJECT while a frame is held or in
a break (log 3). -/
def Obligations.DamagedFramesAreRejected : Prop :=
  ∀ (s : State) (reason : RejectReason) (kind tag : Option Byte), s.supply.operating = true →
    let command := Instr.frameReject reason kind tag
    let timedOut (x : State) : Prop :=
      exec .gapTimeout s = .next x.choose
      ∧ (s.link.inBreak = false →
        (reason = .timeout ∨ s.link.reply ≠ none → exec command s = .next x.choose)
        ∧ (reason ≠ .timeout → s.link.reply = none → exec command s = .next (rejected x reason kind tag).choose))
    (s.link.inBreak = true ∨ s.link.ended ≠ none → exec command s = .next s.choose)
    ∧ (s.link.ended = none → s.link.fifo = [] →
      (∀ deadline, s.link.gapDeadline = some deadline →
        (s.link.assembler = .length → deadline < s.stb → timedOut (rejected s .timeout none none))
        ∧ (∀ len got, s.link.assembler = .body len got → deadline < s.stb →
          timedOut (rejected s .timeout (got[0]?.map RxByte.data) (got[1]?.map RxByte.data)))
        ∧ (s.stb ≤ deadline ∨ s.link.assembler = .hunting → exec .gapTimeout s = .next s.choose))
      ∧ (s.link.inBreak = false → s.gapPassed = false →
        (s.link.assembler = .hunting → exec command s = .next (rejected s reason kind tag).choose)
        ∧ (s.link.assembler = .length →
          (reason = .timeout → exec command s = .next s.choose)
          ∧ (reason ≠ .timeout → exec command s = .next (rejected s reason kind tag).choose))
        ∧ ∀ len got, s.link.assembler = .body len got →
          (reason = .timeout ∨ reason = .length → exec command s = .next s.choose)
          ∧ (reason ≠ .timeout → reason ≠ .length →
            let ending (why : RejectReason) : State :=
              rejected s why ((got[0]?.map RxByte.data).or kind) ((got[1]?.map RxByte.data).or tag)
            ((∀ y ∈ len :: got, y.overrun = false ∧ y.framing = false ∧ y.parity = false) →
              exec command s = .next (ending reason).choose)
            ∧ ∀ before x after, len :: got = before ++ x :: after →
              (∀ y ∈ before, y.overrun = false ∧ y.framing = false ∧ y.parity = false) →
                (x.overrun = true → exec command s = .next (ending .overrun).choose)
                ∧ (x.overrun = false → x.framing = true → exec command s = .next (ending .framing).choose)
                ∧ (x.overrun = false → x.framing = false → x.parity = true →
                  exec command s = .next (ending .parity).choose))))

/-- A break empties the FIFO, releases Hold, clears the assembler with any frame it held, and holds reception until the line
returns to mark (R193). Its first character can complete a frame, which is then rejected for its earliest mark, FRAMING if
there is no other (R191; log 11); a frame whose gap deadline has passed takes it no more and is discarded with no REJECT
(R192, R199; log 11). A reply, the transmitter and everything else stay. In a break LINE_BREAK changes nothing (log 3); the
line may return to mark while the part is stopped (log 22). -/
def Obligations.BreakClearsReceiver : Prop :=
  ∀ s : State,
    let broken (l : Link) : Link :=
      { l with
        fifo := [], holdo := false, assembler := .hunting, ended := none, gapDeadline := none, inBreak := true }
    (s.supply.operating = true → s.link.inBreak = false →
      (s.gapPassed = true → exec .lineBreak s = .next (State.choose { s with link := broken s.link }))
      ∧ (s.gapPassed = false → (s.link.ended = none → s.link.fifo = []) →
        ((s.link.ended ≠ none ∨ ∀ len got, s.link.assembler = .body len got → got.length + 1 < len.data.toNat + 3) →
          exec .lineBreak s = .next (State.choose { s with link := broken s.link }))
        ∧ ∀ len kind tag payload, s.link.ended = none → s.link.assembler = .body len (kind :: tag :: payload) →
          payload.length = len.data.toNat →
            let whole := len :: kind :: tag :: payload
            let ends (reason : RejectReason) : Prop :=
              exec .lineBreak s =
                .next (State.choose { s with link := broken (rejected s reason (some kind.data) (some tag.data)).link })
            ((∀ y ∈ whole, y.overrun = false ∧ y.framing = false ∧ y.parity = false) → ends .framing)
            ∧ ∀ before x after, whole = before ++ x :: after →
              (∀ y ∈ before, y.overrun = false ∧ y.framing = false ∧ y.parity = false) →
                (x.overrun = true → ends .overrun)
                ∧ (x.overrun = false → x.framing = true → ends .framing)
                ∧ (x.overrun = false → x.framing = false → x.parity = true → ends .parity)))
    ∧ (s.supply.operating = true → s.link.inBreak = true → exec .lineBreak s = .next s.choose)
    ∧ (s.supply.operating = true →
      exec .lineReturnToMark s = .next (State.choose { s with link := { s.link with inBreak := false } }))
    ∧ (s.supply.operating = false →
      exec .lineReturnToMark s = .next { s with link := { s.link with inBreak := false } })

/-- When IDLE the transmitter takes the reply, and else the oldest notice, which leaves the queue with TAG 0; a frame being
sent is never given up (R189, R196, R197). Its length is 11 bit times a byte, each a start bit at space, the data bits
least significant first, a bit of even parity and a stop bit at mark (R186; that they are read off the time left is log
10's); TXD is at mark with nothing to send. The end of a frame frees the transmitter (R196): after a reply the buffer is
empty, a frame the assembler held is handed on, a good one to the Request Handler, a rejected one as REJECT, and the bytes
waiting in the FIFO are taken as characters are, from its front until a frame ends or none is left, with HOLDO released as
the count falls to 16 (R187, R188, R194); after a notice nothing else changes, and with nothing being sent nothing at all
(log 3). -/
def Obligations.TransmitterChoosesAndIsFreed : Prop :=
  (∀ s : State,
     (∀ f isReply left, s.link.transmitter = .sending f isReply left → s.choose = s)
     ∧ (s.link.transmitter = .idle →
       (∀ f, s.link.reply = some f →
         s.choose =
           { s with
             link := { s.link with transmitter := .sending f true ((f.payload.length + 5) * 11000) } })
       ∧ (s.link.reply = none →
         (s.notices.waiting = [] → s.choose = s)
         ∧ ∀ n rest, s.notices.waiting = n :: rest →
           s.choose =
             { s with
               notices := { s.notices with waiting := rest }
               link :=
                 { s.link with
                   transmitter :=
                     .sending { kind := n.kind, tag := 0, payload := n.payload } false
                       ((n.payload.length + 5) * 11000) } })))
  ∧ ∀ (s : State) (f : Frame) (left : Nat), s.supply.operating = true →
      let freed : State := { s with link := { s.link with transmitter := .idle, reply := none, ended := none } }
      (s.link.transmitter = .idle → exec .transmitFrameEnd s = .next s.choose)
      ∧ (s.link.transmitter = .sending f false left →
        exec .transmitFrameEnd s = .next (State.choose { s with link := { s.link with transmitter := .idle } }))
      ∧ (s.link.transmitter = .sending f true left → s.link.restartPending = false →
        (s.link.ended = none → exec .transmitFrameEnd s = .next freed.drainFifo.choose)
        ∧ (∀ kind tag payload, s.link.ended = some (.good kind tag payload) →
          exec .transmitFrameEnd s = .next (freed.handleRequest kind tag payload).drainFifo.choose)
        ∧ ∀ reason kind tag, s.link.ended = some (.rejected reason kind tag) →
          let answered : State :=
            { freed with
              link :=
                { freed.link with
                  reply := some
                    { kind := 0xFF, tag := tag.getD 0, payload := [rejectCode reason, kind.getD 0] } } }
          exec .transmitFrameEnd s = .next answered.drainFifo.choose)
      ∧ (s.link.ended ≠ none ∨ s.link.fifo = [] → s.drainFifo = s)
      ∧ (∀ b rest, s.link.ended = none → s.link.fifo = b :: rest →
        s.drainFifo =
          State.drainFifo
            (State.takeByte
              { s with link := { s.link with fifo := rest, holdo := s.link.holdo && decide (16 < rest.length) } } b))
      ∧ (∀ data parityBit stopBit, Taking s →
        exec (.byteReceived data parityBit stopBit) s = .next (s.takeByte (received data parityBit stopBit)).choose)
      ∧ Transmitter.txd .idle = true ∧ Transmitter.txd (.sending f true 0) = true
      ∧ ∀ (isReply : Bool) (j i r : Nat) (b : Byte), f.bytes[j]? = some b → i < 11 → r < 1000 →
        Transmitter.txd (.sending f isReply ((f.payload.length + 5) * 11000 - ((11 * j + i) * 1000 + r))) =
          (if i = 0 then false
           else if i = 9 then decide (onesBelow b 8 % 2 = 1)
           else if i = 10 then true
           else b.getLsbD (i - 1))

/-- The bytes of a frame, sent one after another without damage while nothing else happens, are the request of the frame:
from a quiet link with nothing to send, the line's bytes SYNC, LEN, KIND, TAG, payload and CHECK with right parity and
stop bits leave the very state that the request's own command leaves (R186, R189 to R191, R194, R195; log 5). -/
def Obligations.GoodFrameIsRequest : Prop :=
  ∀ (s : State) (kind tag : Byte) (payload : List Byte), Listening s → s.link.holdo = false →
    s.link.gapDeadline = none → s.choiceWaits = false → payload.length ≤ 120 →
      (frameBytes kind tag payload).foldl
          (fun out b =>
            match out with
            | .next u => exec (.byteReceived b (decide (onesBelow b 8 % 2 = 1)) true) u
            | other => other)
          (.next s : Out) =
        exec (commandOf kind tag payload) s

/-! ## What every step keeps -/

/-- Every step, of any command or of the part itself, keeps the engine, the planner, the channels and the test in
agreement (R73, R89, R90, R123, R130, R147, R182, R203), and so agreeing, a part in a hold has no strike waiting, no
channel FIRING and every gate off (R138). -/
def Obligations.StepsKeepHoldSafe : Prop :=
  (∀ s : State, HoldSafe s → s.engine.state = .held →
     s.queue = [] ∧ ∀ b : Bell, s.channels[b].gate = false ∧ s.channels[b].state ≠ .firing)
  ∧ ∀ s t : State, HoldSafe s → step s = .next t → HoldSafe t

/-- Every step keeps the capacities of the account, the queues, the lists, the log and the FIFO, the settings and every
bell's record in their ranges, and the calendar real (R1, R2, R9, R33, R34, R66, R98, R110, R127, R152, R170, R187,
R197). -/
def Obligations.StepsKeepRanges : Prop :=
  ∀ s t : State, step s = .next t →
    (Bounded s → Bounded t)
    ∧ (SettingsInRange s → SettingsInRange t)
    ∧ (CalendarReal s → CalendarReal t)
    ∧ ((∀ b : Bell, BellInRange s.bells[b]) → ∀ b : Bell, BellInRange t.bells[b])

/-- Every step keeps the Strike Queue in its order of earliest fire time and bell, every entry before its bell's shadow,
and its channel in service (R119, R120, R127, R128, R130). -/
def Obligations.StepsKeepQueueServed : Prop :=
  ∀ s t : State, HoldSafe s → (∀ b : Bell, BellInRange s.bells[b]) → QueueServed s → step s = .next t → QueueServed t

/-- Every step keeps sound times and phrase numbers in order in the breath log, the tempo remainder below 48, and the log
filled throughout a stint (R103, R105, R106, R110, R112). -/
def Obligations.StepsKeepPlannerOrdered : Prop :=
  ∀ s t : State, PlannerOrdered s → step s = .next t → PlannerOrdered t

/-- Every step keeps the Cue List in its order and cue ids different (R65, R66), every slot's reference count at the number
of live cues that name it (R28), and an entry latched exactly while a live cue comes from it (R56), over a score store
that is sound, as StepsKeepStoreSound keeps it. -/
def Obligations.StepsKeepCuesCounted : Prop :=
  ∀ s t : State, HoldSafe s → Bounded s → StoreSound s → CuesOrdered s → CuesCounted s → step s = .next t →
    CuesOrdered t ∧ CuesCounted t

/-- Every step keeps the score store sound: its bytes in canonical form, every block in at most one chain, every slot as its
state says, and every record of a READY score valid (R19 to R21, R24, R25, R28). -/
def Obligations.StepsKeepStoreSound : Prop :=
  ∀ s t : State, step s = .next t →
    (Memory.wf s.scores.mem = true → Memory.wf t.scores.mem = true)
    ∧ (StoreSound s → StoreSound t)
    ∧ (StoreSound s → ReadyValid s → ReadyValid t)

/-- Every step keeps a bell's record saying the service position of its channel, so that a warm start brings it back (R4,
R5, R10, R13, R142 to R145, R147). -/
def Obligations.StepsKeepServiceAgrees : Prop :=
  ∀ s t : State, HoldSafe s → ServiceAgrees s → step s = .next t → ServiceAgrees t

/-- The machine right after reset meets every invariant of this section. -/
def Obligations.ResetMeetsInvariants : Prop :=
  let s := State.reset
  HoldSafe s ∧ Bounded s ∧ SettingsInRange s ∧ CalendarReal s ∧ (∀ b : Bell, BellInRange s.bells[b]) ∧ QueueServed s
    ∧ PlannerOrdered s ∧ CuesOrdered s ∧ CuesCounted s ∧ Memory.wf s.scores.mem = true ∧ StoreSound s ∧ ReadyValid s
    ∧ ServiceAgrees s
end

