-- ==== Sys2Proof/Laws/Memory.lean ====
section
/-! SUPPORT. The pool memory's laws: a write is read back and leaves every other byte alone, and every memory operation
keeps the canonical form. -/

namespace Sys2Proof.Machine

/-! ## The canonical form -/

/-- A canonical memory above a bound stays one above any lower bound. -/
theorem Memory.wfAbove_weaken {m : List Host.Cell} {k : Nat} {low : Option Nat} (h : Memory.wfAbove (some k) m = true)
    (hl : ∀ l, low = some l → l < k) : Memory.wfAbove low m = true := by
  cases m with
  | nil => rfl
  | cons c rest =>
    obtain ⟨a, v⟩ := c
    simp only [Memory.wfAbove, Bool.and_eq_true, decide_eq_true_eq] at h ⊢
    refine ⟨⟨?_, h.1.2⟩, h.2⟩
    cases low with
    | none => rfl
    | some l => exact decide_eq_true (Nat.lt_trans (hl l rfl) h.1.1)

/-- A byte written above the bound keeps the form above it. -/
theorem Memory.writeByte_wfAbove (m : List Host.Cell) (a : Nat) (v : Byte) :
    ∀ low : Option Nat, (∀ l, low = some l → l < a) → Memory.wfAbove low m = true →
      Memory.wfAbove low (Memory.writeByte m a v) = true := by
  induction m with
  | nil =>
    intro low hl _
    unfold Memory.writeByte
    by_cases hv : v = 0
    · rw [if_pos hv]; rfl
    · rw [if_neg hv]
      simp only [Memory.wfAbove, Bool.and_eq_true, decide_eq_true_eq]
      refine ⟨⟨?_, hv⟩, trivial⟩
      cases low with
      | none => rfl
      | some l => exact decide_eq_true (hl l rfl)
  | cons c rest ih =>
    obtain ⟨k, w⟩ := c
    intro low hl h
    have h' := h
    simp only [Memory.wfAbove, Bool.and_eq_true, decide_eq_true_eq] at h'
    unfold Memory.writeByte
    by_cases h1 : a < k
    · rw [if_pos h1]
      by_cases hv : v = 0
      · rw [if_pos hv]; exact h
      · rw [if_neg hv]
        simp only [Memory.wfAbove, Bool.and_eq_true, decide_eq_true_eq]
        refine ⟨⟨?_, hv⟩, ⟨h1, h'.1.2⟩, h'.2⟩
        cases low with
        | none => rfl
        | some l => exact decide_eq_true (hl l rfl)
    · rw [if_neg h1]
      by_cases h2 : a = k
      · rw [if_pos h2]
        subst h2
        by_cases hv : v = 0
        · rw [if_pos hv]; exact Memory.wfAbove_weaken h'.2 hl
        · rw [if_neg hv]
          simp only [Memory.wfAbove, Bool.and_eq_true, decide_eq_true_eq]
          refine ⟨⟨?_, hv⟩, h'.2⟩
          cases low with
          | none => rfl
          | some l => exact decide_eq_true (hl l rfl)
      · rw [if_neg h2]
        simp only [Memory.wfAbove, Bool.and_eq_true, decide_eq_true_eq]
        refine ⟨h'.1, ih (some k) ?_ h'.2⟩
        intro l hk
        cases hk
        omega

theorem Memory.writeByte_wf (m : List Host.Cell) (a : Nat) (v : Byte) (h : Memory.wf m = true) :
    Memory.wf (Memory.writeByte m a v) = true :=
  Memory.writeByte_wfAbove m a v none (fun _ h => nomatch h) h

theorem Memory.writeBytes_wf : ∀ (bytes : List Byte) (m : List Host.Cell) (a : Nat), Memory.wf m = true →
    Memory.wf (Memory.writeBytes m a bytes) = true
  | [], _, _, h => h
  | v :: rest, m, a, h => Memory.writeBytes_wf rest _ _ (Memory.writeByte_wf m a v h)

theorem writeRecords_wf (chain : List Nat) : ∀ (n : Nat) (p : List Byte) (m : List Host.Cell) (i : Nat), p.length ≤ n →
    Memory.wf m = true → Memory.wf (writeRecords m chain i p) = true
  | _, [], _, _, _, h => h
  | _, [_], _, _, _, h => h
  | _, [_, _], _, _, _, h => h
  | _, [_, _, _], _, _, _, h => h
  | 0, _ :: _ :: _ :: _ :: _, _, _, hn, _ => absurd hn (by simp)
  | n + 1, _ :: _ :: _ :: _ :: rest, _, i, hn, h =>
    writeRecords_wf chain n rest _ (i + 1) (by simp at hn; omega) (Memory.writeBytes_wf _ _ _ h)

/-- The pool of the reset state is in canonical form. -/
theorem State.reset_mem_wf : Memory.wf State.reset.scores.mem = true := rfl

/-! ## Reading after a write -/

/-- A canonical memory above a bound lists nothing at the bound or below, so 0 is read there. -/
theorem Memory.readByte_below {m : List Host.Cell} {k a : Nat} (h : Memory.wfAbove (some k) m = true) (ha : a ≤ k) :
    Memory.readByte m a = 0 := by
  induction m generalizing k with
  | nil => rfl
  | cons c rest ih =>
    obtain ⟨j, w⟩ := c
    simp only [Memory.wfAbove, Bool.and_eq_true, decide_eq_true_eq] at h
    unfold Memory.readByte
    rw [if_neg (by omega)]
    exact ih h.2 (by omega)

/-- A byte written to a canonical memory is read back. -/
theorem Memory.readByte_writeByte_same (m : List Host.Cell) (a : Nat) (v : Byte) :
    ∀ low : Option Nat, Memory.wfAbove low m = true → Memory.readByte (Memory.writeByte m a v) a = v := by
  induction m with
  | nil =>
    intro _ _
    unfold Memory.writeByte
    by_cases hv : v = 0
    · rw [if_pos hv, hv]; rfl
    · rw [if_neg hv]; simp [Memory.readByte]
  | cons c rest ih =>
    obtain ⟨k, w⟩ := c
    intro low h
    simp only [Memory.wfAbove, Bool.and_eq_true, decide_eq_true_eq] at h
    unfold Memory.writeByte
    by_cases h1 : a < k
    · rw [if_pos h1]
      by_cases hv : v = 0
      · rw [if_pos hv, hv]
        unfold Memory.readByte
        rw [if_neg (by omega)]
        exact Memory.readByte_below h.2 (by omega)
      · rw [if_neg hv]; simp [Memory.readByte]
    · rw [if_neg h1]
      by_cases h2 : a = k
      · rw [if_pos h2]
        by_cases hv : v = 0
        · rw [if_pos hv, hv]; exact Memory.readByte_below h.2 (by omega)
        · rw [if_neg hv]; simp [Memory.readByte]
      · rw [if_neg h2]
        unfold Memory.readByte
        rw [if_neg (fun e => h2 e.symm)]
        exact ih _ h.2

/-- A write leaves every other byte as it read. -/
theorem Memory.readByte_writeByte_other (m : List Host.Cell) (a b : Nat) (v : Byte) (hb : b ≠ a) :
    Memory.readByte (Memory.writeByte m a v) b = Memory.readByte m b := by
  induction m with
  | nil =>
    unfold Memory.writeByte
    by_cases hv : v = 0
    · rw [if_pos hv]
    · rw [if_neg hv]; simp [Memory.readByte, Ne.symm hb]
  | cons c rest ih =>
    obtain ⟨k, w⟩ := c
    unfold Memory.writeByte
    by_cases h1 : a < k
    · rw [if_pos h1]
      by_cases hv : v = 0
      · rw [if_pos hv]
      · rw [if_neg hv]; simp [Memory.readByte, Ne.symm hb]
    · rw [if_neg h1]
      by_cases h2 : a = k
      · rw [if_pos h2]
        subst h2
        by_cases hv : v = 0
        · rw [if_pos hv]; simp [Memory.readByte, Ne.symm hb]
        · rw [if_neg hv]; simp [Memory.readByte, Ne.symm hb]
      · rw [if_neg h2]
        simp only [Memory.readByte, ih]

/-- Bytes written at rising addresses leave every byte outside them as it read. -/
theorem Memory.readByte_writeBytes_other : ∀ (bytes : List Byte) (m : List Host.Cell) (a b : Nat),
    (b < a ∨ a + bytes.length ≤ b) → Memory.readByte (Memory.writeBytes m a bytes) b = Memory.readByte m b
  | [], _, _, _, _ => rfl
  | v :: rest, m, a, b, h => by
    simp only [List.length_cons] at h
    rw [Memory.writeBytes, Memory.readByte_writeBytes_other rest _ _ _ (by omega),
      Memory.readByte_writeByte_other _ _ _ _ (by omega)]

end Sys2Proof.Machine
end

