-- ==== Sys2Proof/Laws/State.lean ====
section
/-! SUPPORT. One lemma for each field of State under each update, true by rfl: later proofs never unfold an update. -/

namespace Sys2Proof.Machine

variable (s : State)

@[simp] theorem State.setPending_pending (x : List Instr) : (s.setPending x).pending = x := rfl
@[simp] theorem State.setPending_stb (x : List Instr) : (s.setPending x).stb = s.stb := rfl
@[simp] theorem State.setPending_refillDue (x : List Instr) : (s.setPending x).refillDue = s.refillDue := rfl
@[simp] theorem State.setPending_freeIndex (x : List Instr) : (s.setPending x).freeIndex = s.freeIndex := rfl
@[simp] theorem State.setPending_supply (x : List Instr) : (s.setPending x).supply = s.supply := rfl
@[simp] theorem State.setPending_calendar (x : List Instr) : (s.setPending x).calendar = s.calendar := rfl
@[simp] theorem State.setPending_schedule (x : List Instr) : (s.setPending x).schedule = s.schedule := rfl
@[simp] theorem State.setPending_scores (x : List Instr) : (s.setPending x).scores = s.scores := rfl
@[simp] theorem State.setPending_cues (x : List Instr) : (s.setPending x).cues = s.cues := rfl
@[simp] theorem State.setPending_engine (x : List Instr) : (s.setPending x).engine = s.engine := rfl
@[simp] theorem State.setPending_planner (x : List Instr) : (s.setPending x).planner = s.planner := rfl
@[simp] theorem State.setPending_queue (x : List Instr) : (s.setPending x).queue = s.queue := rfl
@[simp] theorem State.setPending_channels (x : List Instr) : (s.setPending x).channels = s.channels := rfl
@[simp] theorem State.setPending_reservoir (x : List Instr) : (s.setPending x).reservoir = s.reservoir := rfl
@[simp] theorem State.setPending_monitor (x : List Instr) : (s.setPending x).monitor = s.monitor := rfl
@[simp] theorem State.setPending_bells (x : List Instr) : (s.setPending x).bells = s.bells := rfl
@[simp] theorem State.setPending_link (x : List Instr) : (s.setPending x).link = s.link := rfl
@[simp] theorem State.setPending_notices (x : List Instr) : (s.setPending x).notices = s.notices := rfl

@[simp] theorem State.setStb_pending (x : Stb) : (s.setStb x).pending = s.pending := rfl
@[simp] theorem State.setStb_stb (x : Stb) : (s.setStb x).stb = x := rfl
@[simp] theorem State.setStb_refillDue (x : Stb) : (s.setStb x).refillDue = s.refillDue := rfl
@[simp] theorem State.setStb_freeIndex (x : Stb) : (s.setStb x).freeIndex = s.freeIndex := rfl
@[simp] theorem State.setStb_supply (x : Stb) : (s.setStb x).supply = s.supply := rfl
@[simp] theorem State.setStb_calendar (x : Stb) : (s.setStb x).calendar = s.calendar := rfl
@[simp] theorem State.setStb_schedule (x : Stb) : (s.setStb x).schedule = s.schedule := rfl
@[simp] theorem State.setStb_scores (x : Stb) : (s.setStb x).scores = s.scores := rfl
@[simp] theorem State.setStb_cues (x : Stb) : (s.setStb x).cues = s.cues := rfl
@[simp] theorem State.setStb_engine (x : Stb) : (s.setStb x).engine = s.engine := rfl
@[simp] theorem State.setStb_planner (x : Stb) : (s.setStb x).planner = s.planner := rfl
@[simp] theorem State.setStb_queue (x : Stb) : (s.setStb x).queue = s.queue := rfl
@[simp] theorem State.setStb_channels (x : Stb) : (s.setStb x).channels = s.channels := rfl
@[simp] theorem State.setStb_reservoir (x : Stb) : (s.setStb x).reservoir = s.reservoir := rfl
@[simp] theorem State.setStb_monitor (x : Stb) : (s.setStb x).monitor = s.monitor := rfl
@[simp] theorem State.setStb_bells (x : Stb) : (s.setStb x).bells = s.bells := rfl
@[simp] theorem State.setStb_link (x : Stb) : (s.setStb x).link = s.link := rfl
@[simp] theorem State.setStb_notices (x : Stb) : (s.setStb x).notices = s.notices := rfl

@[simp] theorem State.setRefillDue_pending (x : Bool) : (s.setRefillDue x).pending = s.pending := rfl
@[simp] theorem State.setRefillDue_stb (x : Bool) : (s.setRefillDue x).stb = s.stb := rfl
@[simp] theorem State.setRefillDue_refillDue (x : Bool) : (s.setRefillDue x).refillDue = x := rfl
@[simp] theorem State.setRefillDue_freeIndex (x : Bool) : (s.setRefillDue x).freeIndex = s.freeIndex := rfl
@[simp] theorem State.setRefillDue_supply (x : Bool) : (s.setRefillDue x).supply = s.supply := rfl
@[simp] theorem State.setRefillDue_calendar (x : Bool) : (s.setRefillDue x).calendar = s.calendar := rfl
@[simp] theorem State.setRefillDue_schedule (x : Bool) : (s.setRefillDue x).schedule = s.schedule := rfl
@[simp] theorem State.setRefillDue_scores (x : Bool) : (s.setRefillDue x).scores = s.scores := rfl
@[simp] theorem State.setRefillDue_cues (x : Bool) : (s.setRefillDue x).cues = s.cues := rfl
@[simp] theorem State.setRefillDue_engine (x : Bool) : (s.setRefillDue x).engine = s.engine := rfl
@[simp] theorem State.setRefillDue_planner (x : Bool) : (s.setRefillDue x).planner = s.planner := rfl
@[simp] theorem State.setRefillDue_queue (x : Bool) : (s.setRefillDue x).queue = s.queue := rfl
@[simp] theorem State.setRefillDue_channels (x : Bool) : (s.setRefillDue x).channels = s.channels := rfl
@[simp] theorem State.setRefillDue_reservoir (x : Bool) : (s.setRefillDue x).reservoir = s.reservoir := rfl
@[simp] theorem State.setRefillDue_monitor (x : Bool) : (s.setRefillDue x).monitor = s.monitor := rfl
@[simp] theorem State.setRefillDue_bells (x : Bool) : (s.setRefillDue x).bells = s.bells := rfl
@[simp] theorem State.setRefillDue_link (x : Bool) : (s.setRefillDue x).link = s.link := rfl
@[simp] theorem State.setRefillDue_notices (x : Bool) : (s.setRefillDue x).notices = s.notices := rfl

@[simp] theorem State.setFreeIndex_pending (x : Nat) : (s.setFreeIndex x).pending = s.pending := rfl
@[simp] theorem State.setFreeIndex_stb (x : Nat) : (s.setFreeIndex x).stb = s.stb := rfl
@[simp] theorem State.setFreeIndex_refillDue (x : Nat) : (s.setFreeIndex x).refillDue = s.refillDue := rfl
@[simp] theorem State.setFreeIndex_freeIndex (x : Nat) : (s.setFreeIndex x).freeIndex = x := rfl
@[simp] theorem State.setFreeIndex_supply (x : Nat) : (s.setFreeIndex x).supply = s.supply := rfl
@[simp] theorem State.setFreeIndex_calendar (x : Nat) : (s.setFreeIndex x).calendar = s.calendar := rfl
@[simp] theorem State.setFreeIndex_schedule (x : Nat) : (s.setFreeIndex x).schedule = s.schedule := rfl
@[simp] theorem State.setFreeIndex_scores (x : Nat) : (s.setFreeIndex x).scores = s.scores := rfl
@[simp] theorem State.setFreeIndex_cues (x : Nat) : (s.setFreeIndex x).cues = s.cues := rfl
@[simp] theorem State.setFreeIndex_engine (x : Nat) : (s.setFreeIndex x).engine = s.engine := rfl
@[simp] theorem State.setFreeIndex_planner (x : Nat) : (s.setFreeIndex x).planner = s.planner := rfl
@[simp] theorem State.setFreeIndex_queue (x : Nat) : (s.setFreeIndex x).queue = s.queue := rfl
@[simp] theorem State.setFreeIndex_channels (x : Nat) : (s.setFreeIndex x).channels = s.channels := rfl
@[simp] theorem State.setFreeIndex_reservoir (x : Nat) : (s.setFreeIndex x).reservoir = s.reservoir := rfl
@[simp] theorem State.setFreeIndex_monitor (x : Nat) : (s.setFreeIndex x).monitor = s.monitor := rfl
@[simp] theorem State.setFreeIndex_bells (x : Nat) : (s.setFreeIndex x).bells = s.bells := rfl
@[simp] theorem State.setFreeIndex_link (x : Nat) : (s.setFreeIndex x).link = s.link := rfl
@[simp] theorem State.setFreeIndex_notices (x : Nat) : (s.setFreeIndex x).notices = s.notices := rfl

@[simp] theorem State.setSupply_pending (x : Supply) : (s.setSupply x).pending = s.pending := rfl
@[simp] theorem State.setSupply_stb (x : Supply) : (s.setSupply x).stb = s.stb := rfl
@[simp] theorem State.setSupply_refillDue (x : Supply) : (s.setSupply x).refillDue = s.refillDue := rfl
@[simp] theorem State.setSupply_freeIndex (x : Supply) : (s.setSupply x).freeIndex = s.freeIndex := rfl
@[simp] theorem State.setSupply_supply (x : Supply) : (s.setSupply x).supply = x := rfl
@[simp] theorem State.setSupply_calendar (x : Supply) : (s.setSupply x).calendar = s.calendar := rfl
@[simp] theorem State.setSupply_schedule (x : Supply) : (s.setSupply x).schedule = s.schedule := rfl
@[simp] theorem State.setSupply_scores (x : Supply) : (s.setSupply x).scores = s.scores := rfl
@[simp] theorem State.setSupply_cues (x : Supply) : (s.setSupply x).cues = s.cues := rfl
@[simp] theorem State.setSupply_engine (x : Supply) : (s.setSupply x).engine = s.engine := rfl
@[simp] theorem State.setSupply_planner (x : Supply) : (s.setSupply x).planner = s.planner := rfl
@[simp] theorem State.setSupply_queue (x : Supply) : (s.setSupply x).queue = s.queue := rfl
@[simp] theorem State.setSupply_channels (x : Supply) : (s.setSupply x).channels = s.channels := rfl
@[simp] theorem State.setSupply_reservoir (x : Supply) : (s.setSupply x).reservoir = s.reservoir := rfl
@[simp] theorem State.setSupply_monitor (x : Supply) : (s.setSupply x).monitor = s.monitor := rfl
@[simp] theorem State.setSupply_bells (x : Supply) : (s.setSupply x).bells = s.bells := rfl
@[simp] theorem State.setSupply_link (x : Supply) : (s.setSupply x).link = s.link := rfl
@[simp] theorem State.setSupply_notices (x : Supply) : (s.setSupply x).notices = s.notices := rfl

@[simp] theorem State.setCalendar_pending (x : Calendar) : (s.setCalendar x).pending = s.pending := rfl
@[simp] theorem State.setCalendar_stb (x : Calendar) : (s.setCalendar x).stb = s.stb := rfl
@[simp] theorem State.setCalendar_refillDue (x : Calendar) : (s.setCalendar x).refillDue = s.refillDue := rfl
@[simp] theorem State.setCalendar_freeIndex (x : Calendar) : (s.setCalendar x).freeIndex = s.freeIndex := rfl
@[simp] theorem State.setCalendar_supply (x : Calendar) : (s.setCalendar x).supply = s.supply := rfl
@[simp] theorem State.setCalendar_calendar (x : Calendar) : (s.setCalendar x).calendar = x := rfl
@[simp] theorem State.setCalendar_schedule (x : Calendar) : (s.setCalendar x).schedule = s.schedule := rfl
@[simp] theorem State.setCalendar_scores (x : Calendar) : (s.setCalendar x).scores = s.scores := rfl
@[simp] theorem State.setCalendar_cues (x : Calendar) : (s.setCalendar x).cues = s.cues := rfl
@[simp] theorem State.setCalendar_engine (x : Calendar) : (s.setCalendar x).engine = s.engine := rfl
@[simp] theorem State.setCalendar_planner (x : Calendar) : (s.setCalendar x).planner = s.planner := rfl
@[simp] theorem State.setCalendar_queue (x : Calendar) : (s.setCalendar x).queue = s.queue := rfl
@[simp] theorem State.setCalendar_channels (x : Calendar) : (s.setCalendar x).channels = s.channels := rfl
@[simp] theorem State.setCalendar_reservoir (x : Calendar) : (s.setCalendar x).reservoir = s.reservoir := rfl
@[simp] theorem State.setCalendar_monitor (x : Calendar) : (s.setCalendar x).monitor = s.monitor := rfl
@[simp] theorem State.setCalendar_bells (x : Calendar) : (s.setCalendar x).bells = s.bells := rfl
@[simp] theorem State.setCalendar_link (x : Calendar) : (s.setCalendar x).link = s.link := rfl
@[simp] theorem State.setCalendar_notices (x : Calendar) : (s.setCalendar x).notices = s.notices := rfl

@[simp] theorem State.setSchedule_pending (x : Vector (Option SchedEntry) 96) : (s.setSchedule x).pending = s.pending := rfl
@[simp] theorem State.setSchedule_stb (x : Vector (Option SchedEntry) 96) : (s.setSchedule x).stb = s.stb := rfl
@[simp] theorem State.setSchedule_refillDue (x : Vector (Option SchedEntry) 96) : (s.setSchedule x).refillDue = s.refillDue := rfl
@[simp] theorem State.setSchedule_freeIndex (x : Vector (Option SchedEntry) 96) : (s.setSchedule x).freeIndex = s.freeIndex := rfl
@[simp] theorem State.setSchedule_supply (x : Vector (Option SchedEntry) 96) : (s.setSchedule x).supply = s.supply := rfl
@[simp] theorem State.setSchedule_calendar (x : Vector (Option SchedEntry) 96) : (s.setSchedule x).calendar = s.calendar := rfl
@[simp] theorem State.setSchedule_schedule (x : Vector (Option SchedEntry) 96) : (s.setSchedule x).schedule = x := rfl
@[simp] theorem State.setSchedule_scores (x : Vector (Option SchedEntry) 96) : (s.setSchedule x).scores = s.scores := rfl
@[simp] theorem State.setSchedule_cues (x : Vector (Option SchedEntry) 96) : (s.setSchedule x).cues = s.cues := rfl
@[simp] theorem State.setSchedule_engine (x : Vector (Option SchedEntry) 96) : (s.setSchedule x).engine = s.engine := rfl
@[simp] theorem State.setSchedule_planner (x : Vector (Option SchedEntry) 96) : (s.setSchedule x).planner = s.planner := rfl
@[simp] theorem State.setSchedule_queue (x : Vector (Option SchedEntry) 96) : (s.setSchedule x).queue = s.queue := rfl
@[simp] theorem State.setSchedule_channels (x : Vector (Option SchedEntry) 96) : (s.setSchedule x).channels = s.channels := rfl
@[simp] theorem State.setSchedule_reservoir (x : Vector (Option SchedEntry) 96) : (s.setSchedule x).reservoir = s.reservoir := rfl
@[simp] theorem State.setSchedule_monitor (x : Vector (Option SchedEntry) 96) : (s.setSchedule x).monitor = s.monitor := rfl
@[simp] theorem State.setSchedule_bells (x : Vector (Option SchedEntry) 96) : (s.setSchedule x).bells = s.bells := rfl
@[simp] theorem State.setSchedule_link (x : Vector (Option SchedEntry) 96) : (s.setSchedule x).link = s.link := rfl
@[simp] theorem State.setSchedule_notices (x : Vector (Option SchedEntry) 96) : (s.setSchedule x).notices = s.notices := rfl

@[simp] theorem State.setScores_pending (x : ScoreStore) : (s.setScores x).pending = s.pending := rfl
@[simp] theorem State.setScores_stb (x : ScoreStore) : (s.setScores x).stb = s.stb := rfl
@[simp] theorem State.setScores_refillDue (x : ScoreStore) : (s.setScores x).refillDue = s.refillDue := rfl
@[simp] theorem State.setScores_freeIndex (x : ScoreStore) : (s.setScores x).freeIndex = s.freeIndex := rfl
@[simp] theorem State.setScores_supply (x : ScoreStore) : (s.setScores x).supply = s.supply := rfl
@[simp] theorem State.setScores_calendar (x : ScoreStore) : (s.setScores x).calendar = s.calendar := rfl
@[simp] theorem State.setScores_schedule (x : ScoreStore) : (s.setScores x).schedule = s.schedule := rfl
@[simp] theorem State.setScores_scores (x : ScoreStore) : (s.setScores x).scores = x := rfl
@[simp] theorem State.setScores_cues (x : ScoreStore) : (s.setScores x).cues = s.cues := rfl
@[simp] theorem State.setScores_engine (x : ScoreStore) : (s.setScores x).engine = s.engine := rfl
@[simp] theorem State.setScores_planner (x : ScoreStore) : (s.setScores x).planner = s.planner := rfl
@[simp] theorem State.setScores_queue (x : ScoreStore) : (s.setScores x).queue = s.queue := rfl
@[simp] theorem State.setScores_channels (x : ScoreStore) : (s.setScores x).channels = s.channels := rfl
@[simp] theorem State.setScores_reservoir (x : ScoreStore) : (s.setScores x).reservoir = s.reservoir := rfl
@[simp] theorem State.setScores_monitor (x : ScoreStore) : (s.setScores x).monitor = s.monitor := rfl
@[simp] theorem State.setScores_bells (x : ScoreStore) : (s.setScores x).bells = s.bells := rfl
@[simp] theorem State.setScores_link (x : ScoreStore) : (s.setScores x).link = s.link := rfl
@[simp] theorem State.setScores_notices (x : ScoreStore) : (s.setScores x).notices = s.notices := rfl

@[simp] theorem State.setCues_pending (x : CueList) : (s.setCues x).pending = s.pending := rfl
@[simp] theorem State.setCues_stb (x : CueList) : (s.setCues x).stb = s.stb := rfl
@[simp] theorem State.setCues_refillDue (x : CueList) : (s.setCues x).refillDue = s.refillDue := rfl
@[simp] theorem State.setCues_freeIndex (x : CueList) : (s.setCues x).freeIndex = s.freeIndex := rfl
@[simp] theorem State.setCues_supply (x : CueList) : (s.setCues x).supply = s.supply := rfl
@[simp] theorem State.setCues_calendar (x : CueList) : (s.setCues x).calendar = s.calendar := rfl
@[simp] theorem State.setCues_schedule (x : CueList) : (s.setCues x).schedule = s.schedule := rfl
@[simp] theorem State.setCues_scores (x : CueList) : (s.setCues x).scores = s.scores := rfl
@[simp] theorem State.setCues_cues (x : CueList) : (s.setCues x).cues = x := rfl
@[simp] theorem State.setCues_engine (x : CueList) : (s.setCues x).engine = s.engine := rfl
@[simp] theorem State.setCues_planner (x : CueList) : (s.setCues x).planner = s.planner := rfl
@[simp] theorem State.setCues_queue (x : CueList) : (s.setCues x).queue = s.queue := rfl
@[simp] theorem State.setCues_channels (x : CueList) : (s.setCues x).channels = s.channels := rfl
@[simp] theorem State.setCues_reservoir (x : CueList) : (s.setCues x).reservoir = s.reservoir := rfl
@[simp] theorem State.setCues_monitor (x : CueList) : (s.setCues x).monitor = s.monitor := rfl
@[simp] theorem State.setCues_bells (x : CueList) : (s.setCues x).bells = s.bells := rfl
@[simp] theorem State.setCues_link (x : CueList) : (s.setCues x).link = s.link := rfl
@[simp] theorem State.setCues_notices (x : CueList) : (s.setCues x).notices = s.notices := rfl

@[simp] theorem State.setEngine_pending (x : Engine) : (s.setEngine x).pending = s.pending := rfl
@[simp] theorem State.setEngine_stb (x : Engine) : (s.setEngine x).stb = s.stb := rfl
@[simp] theorem State.setEngine_refillDue (x : Engine) : (s.setEngine x).refillDue = s.refillDue := rfl
@[simp] theorem State.setEngine_freeIndex (x : Engine) : (s.setEngine x).freeIndex = s.freeIndex := rfl
@[simp] theorem State.setEngine_supply (x : Engine) : (s.setEngine x).supply = s.supply := rfl
@[simp] theorem State.setEngine_calendar (x : Engine) : (s.setEngine x).calendar = s.calendar := rfl
@[simp] theorem State.setEngine_schedule (x : Engine) : (s.setEngine x).schedule = s.schedule := rfl
@[simp] theorem State.setEngine_scores (x : Engine) : (s.setEngine x).scores = s.scores := rfl
@[simp] theorem State.setEngine_cues (x : Engine) : (s.setEngine x).cues = s.cues := rfl
@[simp] theorem State.setEngine_engine (x : Engine) : (s.setEngine x).engine = x := rfl
@[simp] theorem State.setEngine_planner (x : Engine) : (s.setEngine x).planner = s.planner := rfl
@[simp] theorem State.setEngine_queue (x : Engine) : (s.setEngine x).queue = s.queue := rfl
@[simp] theorem State.setEngine_channels (x : Engine) : (s.setEngine x).channels = s.channels := rfl
@[simp] theorem State.setEngine_reservoir (x : Engine) : (s.setEngine x).reservoir = s.reservoir := rfl
@[simp] theorem State.setEngine_monitor (x : Engine) : (s.setEngine x).monitor = s.monitor := rfl
@[simp] theorem State.setEngine_bells (x : Engine) : (s.setEngine x).bells = s.bells := rfl
@[simp] theorem State.setEngine_link (x : Engine) : (s.setEngine x).link = s.link := rfl
@[simp] theorem State.setEngine_notices (x : Engine) : (s.setEngine x).notices = s.notices := rfl

@[simp] theorem State.setPlanner_pending (x : Planner) : (s.setPlanner x).pending = s.pending := rfl
@[simp] theorem State.setPlanner_stb (x : Planner) : (s.setPlanner x).stb = s.stb := rfl
@[simp] theorem State.setPlanner_refillDue (x : Planner) : (s.setPlanner x).refillDue = s.refillDue := rfl
@[simp] theorem State.setPlanner_freeIndex (x : Planner) : (s.setPlanner x).freeIndex = s.freeIndex := rfl
@[simp] theorem State.setPlanner_supply (x : Planner) : (s.setPlanner x).supply = s.supply := rfl
@[simp] theorem State.setPlanner_calendar (x : Planner) : (s.setPlanner x).calendar = s.calendar := rfl
@[simp] theorem State.setPlanner_schedule (x : Planner) : (s.setPlanner x).schedule = s.schedule := rfl
@[simp] theorem State.setPlanner_scores (x : Planner) : (s.setPlanner x).scores = s.scores := rfl
@[simp] theorem State.setPlanner_cues (x : Planner) : (s.setPlanner x).cues = s.cues := rfl
@[simp] theorem State.setPlanner_engine (x : Planner) : (s.setPlanner x).engine = s.engine := rfl
@[simp] theorem State.setPlanner_planner (x : Planner) : (s.setPlanner x).planner = x := rfl
@[simp] theorem State.setPlanner_queue (x : Planner) : (s.setPlanner x).queue = s.queue := rfl
@[simp] theorem State.setPlanner_channels (x : Planner) : (s.setPlanner x).channels = s.channels := rfl
@[simp] theorem State.setPlanner_reservoir (x : Planner) : (s.setPlanner x).reservoir = s.reservoir := rfl
@[simp] theorem State.setPlanner_monitor (x : Planner) : (s.setPlanner x).monitor = s.monitor := rfl
@[simp] theorem State.setPlanner_bells (x : Planner) : (s.setPlanner x).bells = s.bells := rfl
@[simp] theorem State.setPlanner_link (x : Planner) : (s.setPlanner x).link = s.link := rfl
@[simp] theorem State.setPlanner_notices (x : Planner) : (s.setPlanner x).notices = s.notices := rfl

@[simp] theorem State.setQueue_pending (x : List StrikeEntry) : (s.setQueue x).pending = s.pending := rfl
@[simp] theorem State.setQueue_stb (x : List StrikeEntry) : (s.setQueue x).stb = s.stb := rfl
@[simp] theorem State.setQueue_refillDue (x : List StrikeEntry) : (s.setQueue x).refillDue = s.refillDue := rfl
@[simp] theorem State.setQueue_freeIndex (x : List StrikeEntry) : (s.setQueue x).freeIndex = s.freeIndex := rfl
@[simp] theorem State.setQueue_supply (x : List StrikeEntry) : (s.setQueue x).supply = s.supply := rfl
@[simp] theorem State.setQueue_calendar (x : List StrikeEntry) : (s.setQueue x).calendar = s.calendar := rfl
@[simp] theorem State.setQueue_schedule (x : List StrikeEntry) : (s.setQueue x).schedule = s.schedule := rfl
@[simp] theorem State.setQueue_scores (x : List StrikeEntry) : (s.setQueue x).scores = s.scores := rfl
@[simp] theorem State.setQueue_cues (x : List StrikeEntry) : (s.setQueue x).cues = s.cues := rfl
@[simp] theorem State.setQueue_engine (x : List StrikeEntry) : (s.setQueue x).engine = s.engine := rfl
@[simp] theorem State.setQueue_planner (x : List StrikeEntry) : (s.setQueue x).planner = s.planner := rfl
@[simp] theorem State.setQueue_queue (x : List StrikeEntry) : (s.setQueue x).queue = x := rfl
@[simp] theorem State.setQueue_channels (x : List StrikeEntry) : (s.setQueue x).channels = s.channels := rfl
@[simp] theorem State.setQueue_reservoir (x : List StrikeEntry) : (s.setQueue x).reservoir = s.reservoir := rfl
@[simp] theorem State.setQueue_monitor (x : List StrikeEntry) : (s.setQueue x).monitor = s.monitor := rfl
@[simp] theorem State.setQueue_bells (x : List StrikeEntry) : (s.setQueue x).bells = s.bells := rfl
@[simp] theorem State.setQueue_link (x : List StrikeEntry) : (s.setQueue x).link = s.link := rfl
@[simp] theorem State.setQueue_notices (x : List StrikeEntry) : (s.setQueue x).notices = s.notices := rfl

@[simp] theorem State.setChannels_pending (x : Vector Channel 64) : (s.setChannels x).pending = s.pending := rfl
@[simp] theorem State.setChannels_stb (x : Vector Channel 64) : (s.setChannels x).stb = s.stb := rfl
@[simp] theorem State.setChannels_refillDue (x : Vector Channel 64) : (s.setChannels x).refillDue = s.refillDue := rfl
@[simp] theorem State.setChannels_freeIndex (x : Vector Channel 64) : (s.setChannels x).freeIndex = s.freeIndex := rfl
@[simp] theorem State.setChannels_supply (x : Vector Channel 64) : (s.setChannels x).supply = s.supply := rfl
@[simp] theorem State.setChannels_calendar (x : Vector Channel 64) : (s.setChannels x).calendar = s.calendar := rfl
@[simp] theorem State.setChannels_schedule (x : Vector Channel 64) : (s.setChannels x).schedule = s.schedule := rfl
@[simp] theorem State.setChannels_scores (x : Vector Channel 64) : (s.setChannels x).scores = s.scores := rfl
@[simp] theorem State.setChannels_cues (x : Vector Channel 64) : (s.setChannels x).cues = s.cues := rfl
@[simp] theorem State.setChannels_engine (x : Vector Channel 64) : (s.setChannels x).engine = s.engine := rfl
@[simp] theorem State.setChannels_planner (x : Vector Channel 64) : (s.setChannels x).planner = s.planner := rfl
@[simp] theorem State.setChannels_queue (x : Vector Channel 64) : (s.setChannels x).queue = s.queue := rfl
@[simp] theorem State.setChannels_channels (x : Vector Channel 64) : (s.setChannels x).channels = x := rfl
@[simp] theorem State.setChannels_reservoir (x : Vector Channel 64) : (s.setChannels x).reservoir = s.reservoir := rfl
@[simp] theorem State.setChannels_monitor (x : Vector Channel 64) : (s.setChannels x).monitor = s.monitor := rfl
@[simp] theorem State.setChannels_bells (x : Vector Channel 64) : (s.setChannels x).bells = s.bells := rfl
@[simp] theorem State.setChannels_link (x : Vector Channel 64) : (s.setChannels x).link = s.link := rfl
@[simp] theorem State.setChannels_notices (x : Vector Channel 64) : (s.setChannels x).notices = s.notices := rfl

@[simp] theorem State.setReservoir_pending (x : Reservoir) : (s.setReservoir x).pending = s.pending := rfl
@[simp] theorem State.setReservoir_stb (x : Reservoir) : (s.setReservoir x).stb = s.stb := rfl
@[simp] theorem State.setReservoir_refillDue (x : Reservoir) : (s.setReservoir x).refillDue = s.refillDue := rfl
@[simp] theorem State.setReservoir_freeIndex (x : Reservoir) : (s.setReservoir x).freeIndex = s.freeIndex := rfl
@[simp] theorem State.setReservoir_supply (x : Reservoir) : (s.setReservoir x).supply = s.supply := rfl
@[simp] theorem State.setReservoir_calendar (x : Reservoir) : (s.setReservoir x).calendar = s.calendar := rfl
@[simp] theorem State.setReservoir_schedule (x : Reservoir) : (s.setReservoir x).schedule = s.schedule := rfl
@[simp] theorem State.setReservoir_scores (x : Reservoir) : (s.setReservoir x).scores = s.scores := rfl
@[simp] theorem State.setReservoir_cues (x : Reservoir) : (s.setReservoir x).cues = s.cues := rfl
@[simp] theorem State.setReservoir_engine (x : Reservoir) : (s.setReservoir x).engine = s.engine := rfl
@[simp] theorem State.setReservoir_planner (x : Reservoir) : (s.setReservoir x).planner = s.planner := rfl
@[simp] theorem State.setReservoir_queue (x : Reservoir) : (s.setReservoir x).queue = s.queue := rfl
@[simp] theorem State.setReservoir_channels (x : Reservoir) : (s.setReservoir x).channels = s.channels := rfl
@[simp] theorem State.setReservoir_reservoir (x : Reservoir) : (s.setReservoir x).reservoir = x := rfl
@[simp] theorem State.setReservoir_monitor (x : Reservoir) : (s.setReservoir x).monitor = s.monitor := rfl
@[simp] theorem State.setReservoir_bells (x : Reservoir) : (s.setReservoir x).bells = s.bells := rfl
@[simp] theorem State.setReservoir_link (x : Reservoir) : (s.setReservoir x).link = s.link := rfl
@[simp] theorem State.setReservoir_notices (x : Reservoir) : (s.setReservoir x).notices = s.notices := rfl

@[simp] theorem State.setMonitor_pending (x : Monitor) : (s.setMonitor x).pending = s.pending := rfl
@[simp] theorem State.setMonitor_stb (x : Monitor) : (s.setMonitor x).stb = s.stb := rfl
@[simp] theorem State.setMonitor_refillDue (x : Monitor) : (s.setMonitor x).refillDue = s.refillDue := rfl
@[simp] theorem State.setMonitor_freeIndex (x : Monitor) : (s.setMonitor x).freeIndex = s.freeIndex := rfl
@[simp] theorem State.setMonitor_supply (x : Monitor) : (s.setMonitor x).supply = s.supply := rfl
@[simp] theorem State.setMonitor_calendar (x : Monitor) : (s.setMonitor x).calendar = s.calendar := rfl
@[simp] theorem State.setMonitor_schedule (x : Monitor) : (s.setMonitor x).schedule = s.schedule := rfl
@[simp] theorem State.setMonitor_scores (x : Monitor) : (s.setMonitor x).scores = s.scores := rfl
@[simp] theorem State.setMonitor_cues (x : Monitor) : (s.setMonitor x).cues = s.cues := rfl
@[simp] theorem State.setMonitor_engine (x : Monitor) : (s.setMonitor x).engine = s.engine := rfl
@[simp] theorem State.setMonitor_planner (x : Monitor) : (s.setMonitor x).planner = s.planner := rfl
@[simp] theorem State.setMonitor_queue (x : Monitor) : (s.setMonitor x).queue = s.queue := rfl
@[simp] theorem State.setMonitor_channels (x : Monitor) : (s.setMonitor x).channels = s.channels := rfl
@[simp] theorem State.setMonitor_reservoir (x : Monitor) : (s.setMonitor x).reservoir = s.reservoir := rfl
@[simp] theorem State.setMonitor_monitor (x : Monitor) : (s.setMonitor x).monitor = x := rfl
@[simp] theorem State.setMonitor_bells (x : Monitor) : (s.setMonitor x).bells = s.bells := rfl
@[simp] theorem State.setMonitor_link (x : Monitor) : (s.setMonitor x).link = s.link := rfl
@[simp] theorem State.setMonitor_notices (x : Monitor) : (s.setMonitor x).notices = s.notices := rfl

@[simp] theorem State.setBells_pending (x : Vector BellRecord 64) : (s.setBells x).pending = s.pending := rfl
@[simp] theorem State.setBells_stb (x : Vector BellRecord 64) : (s.setBells x).stb = s.stb := rfl
@[simp] theorem State.setBells_refillDue (x : Vector BellRecord 64) : (s.setBells x).refillDue = s.refillDue := rfl
@[simp] theorem State.setBells_freeIndex (x : Vector BellRecord 64) : (s.setBells x).freeIndex = s.freeIndex := rfl
@[simp] theorem State.setBells_supply (x : Vector BellRecord 64) : (s.setBells x).supply = s.supply := rfl
@[simp] theorem State.setBells_calendar (x : Vector BellRecord 64) : (s.setBells x).calendar = s.calendar := rfl
@[simp] theorem State.setBells_schedule (x : Vector BellRecord 64) : (s.setBells x).schedule = s.schedule := rfl
@[simp] theorem State.setBells_scores (x : Vector BellRecord 64) : (s.setBells x).scores = s.scores := rfl
@[simp] theorem State.setBells_cues (x : Vector BellRecord 64) : (s.setBells x).cues = s.cues := rfl
@[simp] theorem State.setBells_engine (x : Vector BellRecord 64) : (s.setBells x).engine = s.engine := rfl
@[simp] theorem State.setBells_planner (x : Vector BellRecord 64) : (s.setBells x).planner = s.planner := rfl
@[simp] theorem State.setBells_queue (x : Vector BellRecord 64) : (s.setBells x).queue = s.queue := rfl
@[simp] theorem State.setBells_channels (x : Vector BellRecord 64) : (s.setBells x).channels = s.channels := rfl
@[simp] theorem State.setBells_reservoir (x : Vector BellRecord 64) : (s.setBells x).reservoir = s.reservoir := rfl
@[simp] theorem State.setBells_monitor (x : Vector BellRecord 64) : (s.setBells x).monitor = s.monitor := rfl
@[simp] theorem State.setBells_bells (x : Vector BellRecord 64) : (s.setBells x).bells = x := rfl
@[simp] theorem State.setBells_link (x : Vector BellRecord 64) : (s.setBells x).link = s.link := rfl
@[simp] theorem State.setBells_notices (x : Vector BellRecord 64) : (s.setBells x).notices = s.notices := rfl

@[simp] theorem State.setLink_pending (x : Link) : (s.setLink x).pending = s.pending := rfl
@[simp] theorem State.setLink_stb (x : Link) : (s.setLink x).stb = s.stb := rfl
@[simp] theorem State.setLink_refillDue (x : Link) : (s.setLink x).refillDue = s.refillDue := rfl
@[simp] theorem State.setLink_freeIndex (x : Link) : (s.setLink x).freeIndex = s.freeIndex := rfl
@[simp] theorem State.setLink_supply (x : Link) : (s.setLink x).supply = s.supply := rfl
@[simp] theorem State.setLink_calendar (x : Link) : (s.setLink x).calendar = s.calendar := rfl
@[simp] theorem State.setLink_schedule (x : Link) : (s.setLink x).schedule = s.schedule := rfl
@[simp] theorem State.setLink_scores (x : Link) : (s.setLink x).scores = s.scores := rfl
@[simp] theorem State.setLink_cues (x : Link) : (s.setLink x).cues = s.cues := rfl
@[simp] theorem State.setLink_engine (x : Link) : (s.setLink x).engine = s.engine := rfl
@[simp] theorem State.setLink_planner (x : Link) : (s.setLink x).planner = s.planner := rfl
@[simp] theorem State.setLink_queue (x : Link) : (s.setLink x).queue = s.queue := rfl
@[simp] theorem State.setLink_channels (x : Link) : (s.setLink x).channels = s.channels := rfl
@[simp] theorem State.setLink_reservoir (x : Link) : (s.setLink x).reservoir = s.reservoir := rfl
@[simp] theorem State.setLink_monitor (x : Link) : (s.setLink x).monitor = s.monitor := rfl
@[simp] theorem State.setLink_bells (x : Link) : (s.setLink x).bells = s.bells := rfl
@[simp] theorem State.setLink_link (x : Link) : (s.setLink x).link = x := rfl
@[simp] theorem State.setLink_notices (x : Link) : (s.setLink x).notices = s.notices := rfl

@[simp] theorem State.setNotices_pending (x : NoticeQueue) : (s.setNotices x).pending = s.pending := rfl
@[simp] theorem State.setNotices_stb (x : NoticeQueue) : (s.setNotices x).stb = s.stb := rfl
@[simp] theorem State.setNotices_refillDue (x : NoticeQueue) : (s.setNotices x).refillDue = s.refillDue := rfl
@[simp] theorem State.setNotices_freeIndex (x : NoticeQueue) : (s.setNotices x).freeIndex = s.freeIndex := rfl
@[simp] theorem State.setNotices_supply (x : NoticeQueue) : (s.setNotices x).supply = s.supply := rfl
@[simp] theorem State.setNotices_calendar (x : NoticeQueue) : (s.setNotices x).calendar = s.calendar := rfl
@[simp] theorem State.setNotices_schedule (x : NoticeQueue) : (s.setNotices x).schedule = s.schedule := rfl
@[simp] theorem State.setNotices_scores (x : NoticeQueue) : (s.setNotices x).scores = s.scores := rfl
@[simp] theorem State.setNotices_cues (x : NoticeQueue) : (s.setNotices x).cues = s.cues := rfl
@[simp] theorem State.setNotices_engine (x : NoticeQueue) : (s.setNotices x).engine = s.engine := rfl
@[simp] theorem State.setNotices_planner (x : NoticeQueue) : (s.setNotices x).planner = s.planner := rfl
@[simp] theorem State.setNotices_queue (x : NoticeQueue) : (s.setNotices x).queue = s.queue := rfl
@[simp] theorem State.setNotices_channels (x : NoticeQueue) : (s.setNotices x).channels = s.channels := rfl
@[simp] theorem State.setNotices_reservoir (x : NoticeQueue) : (s.setNotices x).reservoir = s.reservoir := rfl
@[simp] theorem State.setNotices_monitor (x : NoticeQueue) : (s.setNotices x).monitor = s.monitor := rfl
@[simp] theorem State.setNotices_bells (x : NoticeQueue) : (s.setNotices x).bells = s.bells := rfl
@[simp] theorem State.setNotices_link (x : NoticeQueue) : (s.setNotices x).link = s.link := rfl
@[simp] theorem State.setNotices_notices (x : NoticeQueue) : (s.setNotices x).notices = x := rfl

/-! ## One bell, slot or entry: the update of its block -/

@[simp] theorem State.setChannel_eq (b : Bell) (c : Channel) : s.setChannel b c = s.setChannels (s.channels.set b c) := rfl
@[simp] theorem State.setBell_eq (b : Bell) (r : BellRecord) : s.setBell b r = s.setBells (s.bells.set b r) := rfl
@[simp] theorem State.setWindow_eq (b : Bell) (w : Option Window) :
    s.setWindow b w = s.setMonitor { s.monitor with windows := s.monitor.windows.set b w } := rfl
@[simp] theorem State.setInput_eq (b : Bell) (i : ImpactInput) :
    s.setInput b i = s.setMonitor { s.monitor with inputs := s.monitor.inputs.set b i } := rfl
@[simp] theorem State.setTest_eq (t : Option ChannelTest) : s.setTest t = s.setMonitor { s.monitor with test := t } := rfl
@[simp] theorem State.setShadow_eq (b : Bell) (t : Stb) :
    s.setShadow b t = s.setPlanner { s.planner with shadow := s.planner.shadow.set b t } := rfl
@[simp] theorem State.setSlot_eq (i : SlotNo) (x : Slot) :
    s.setSlot i x = s.setScores { s.scores with slots := s.scores.slots.set i x } := rfl
@[simp] theorem State.setEntry_eq (i : EntryNo) (e : Option SchedEntry) :
    s.setEntry i e = s.setSchedule (s.schedule.set i e) := rfl
@[simp] theorem State.setEngineState_eq (e : EngineState) :
    s.setEngineState e = s.setEngine { s.engine with state := e } := rfl
@[simp] theorem State.setCurrent_eq (p : Option Performance) :
    s.setCurrent p = s.setEngine { s.engine with current := p } := rfl
@[simp] theorem State.setWaiting_eq (l : List Cue) : s.setWaiting l = s.setCues { s.cues with waiting := l } := rfl

end Sys2Proof.Machine
end

