-- ==== Sys2Proof/Laws/Touches.lean ====
section
/-! SUPPORT. What each shared operation may touch: one lemma an operation, cited in place of unfolding it. Every part not
in its list is the same afterwards. -/

namespace Sys2Proof.Machine

/-! ## Touches itself -/

theorem Touches.refl (parts : List Part) (s : State) : Touches parts s s :=
  ⟨fun p _ => by cases p <;> rfl⟩

theorem Touches.trans {l m : List Part} {s t u : State} (h : Touches l s t) (k : Touches m t u) :
    Touches (l ++ m) s u := by
  refine ⟨fun p hp => ?_⟩
  have h1 := h.same p fun x => hp (List.mem_append_left _ x)
  have h2 := k.same p fun x => hp (List.mem_append_right _ x)
  cases p <;> exact Eq.trans h2 h1

theorem Touches.mono {l m : List Part} {s t : State} (h : Touches l s t) (sub : ∀ p ∈ l, p ∈ m) : Touches m s t :=
  ⟨fun p hp => h.same p fun x => hp (sub p x)⟩

/-- Two changes one after the other touch what a list holds that holds both of theirs. -/
theorem Touches.seq {l m n : List Part} {s t u : State} (h : Touches l s t) (k : Touches m t u)
    (hl : ∀ p ∈ l, p ∈ n) (hm : ∀ p ∈ m, p ∈ n) : Touches n s u := by
  have := h.trans k
  exact this.mono fun p hp => (List.mem_append.1 hp).elim (hl p) (hm p)

/-- A chain of operations on an accumulator touches what each of them touches. -/
theorem Touches.foldl {α : Type} {l : List Part} (f : State → α → State) (h : ∀ s x, Touches l s (f s x)) :
    ∀ (xs : List α) (s : State), Touches l s (xs.foldl f s)
  | [], s => .refl l s
  | x :: xs, s => (h s x).seq (Touches.foldl f h xs (f s x)) (fun _ => id) fun _ => id

/-! ## Updates of a block -/

variable (s : State)

theorem touches_setStb (x : Stb) : Touches [.stb] s (s.setStb x) :=
  ⟨fun p hp => by cases p <;> first | rfl | simp at hp⟩
theorem touches_setRefillDue (x : Bool) : Touches [.refillDue] s (s.setRefillDue x) :=
  ⟨fun p hp => by cases p <;> first | rfl | simp at hp⟩
theorem touches_setFreeIndex (x : Nat) : Touches [.freeIndex] s (s.setFreeIndex x) :=
  ⟨fun p hp => by cases p <;> first | rfl | simp at hp⟩
theorem touches_setSupply (x : Supply) : Touches [.supply] s (s.setSupply x) :=
  ⟨fun p hp => by cases p <;> first | rfl | simp at hp⟩
theorem touches_setCalendar (x : Calendar) : Touches [.calendar] s (s.setCalendar x) :=
  ⟨fun p hp => by cases p <;> first | rfl | simp at hp⟩
theorem touches_setSchedule (x : Vector (Option SchedEntry) 96) : Touches [.schedule] s (s.setSchedule x) :=
  ⟨fun p hp => by cases p <;> first | rfl | simp at hp⟩
theorem touches_setScores (x : ScoreStore) : Touches [.scores] s (s.setScores x) :=
  ⟨fun p hp => by cases p <;> first | rfl | simp at hp⟩
theorem touches_setCues (x : CueList) : Touches [.cues] s (s.setCues x) :=
  ⟨fun p hp => by cases p <;> first | rfl | simp at hp⟩
theorem touches_setEngine (x : Engine) : Touches [.engine] s (s.setEngine x) :=
  ⟨fun p hp => by cases p <;> first | rfl | simp at hp⟩
theorem touches_setPlanner (x : Planner) : Touches [.planner] s (s.setPlanner x) :=
  ⟨fun p hp => by cases p <;> first | rfl | simp at hp⟩
theorem touches_setQueue (x : List StrikeEntry) : Touches [.queue] s (s.setQueue x) :=
  ⟨fun p hp => by cases p <;> first | rfl | simp at hp⟩
theorem touches_setChannels (x : Vector Channel 64) : Touches [.channels] s (s.setChannels x) :=
  ⟨fun p hp => by cases p <;> first | rfl | simp at hp⟩
theorem touches_setReservoir (x : Reservoir) : Touches [.reservoir] s (s.setReservoir x) :=
  ⟨fun p hp => by cases p <;> first | rfl | simp at hp⟩
theorem touches_setMonitor (x : Monitor) : Touches [.monitor] s (s.setMonitor x) :=
  ⟨fun p hp => by cases p <;> first | rfl | simp at hp⟩
theorem touches_setBells (x : Vector BellRecord 64) : Touches [.bells] s (s.setBells x) :=
  ⟨fun p hp => by cases p <;> first | rfl | simp at hp⟩
theorem touches_setLink (x : Link) : Touches [.link] s (s.setLink x) :=
  ⟨fun p hp => by cases p <;> first | rfl | simp at hp⟩
theorem touches_setNotices (x : NoticeQueue) : Touches [.notices] s (s.setNotices x) :=
  ⟨fun p hp => by cases p <;> first | rfl | simp at hp⟩

theorem touches_setChannel (b : Bell) (c : Channel) : Touches [.channels] s (s.setChannel b c) := touches_setChannels ..
theorem touches_setBell (b : Bell) (r : BellRecord) : Touches [.bells] s (s.setBell b r) := touches_setBells ..
theorem touches_setWindow (b : Bell) (w : Option Window) : Touches [.monitor] s (s.setWindow b w) := touches_setMonitor ..
theorem touches_setInput (b : Bell) (i : ImpactInput) : Touches [.monitor] s (s.setInput b i) := touches_setMonitor ..
theorem touches_setTest (t : Option ChannelTest) : Touches [.monitor] s (s.setTest t) := touches_setMonitor ..
theorem touches_setShadow (b : Bell) (t : Stb) : Touches [.planner] s (s.setShadow b t) := touches_setPlanner ..
theorem touches_setSlot (i : SlotNo) (x : Slot) : Touches [.scores] s (s.setSlot i x) := touches_setScores ..
theorem touches_setEntry (i : EntryNo) (e : Option SchedEntry) : Touches [.schedule] s (s.setEntry i e) :=
  touches_setSchedule ..
theorem touches_setEngineState (e : EngineState) : Touches [.engine] s (s.setEngineState e) := touches_setEngine ..
theorem touches_setCurrent (p : Option Performance) : Touches [.engine] s (s.setCurrent p) := touches_setEngine ..
theorem touches_setWaiting (l : List Cue) : Touches [.cues] s (s.setWaiting l) := touches_setCues ..

/-! ## Notices, the transmitter, counters -/

theorem touches_raise (n : Notice) : Touches [.notices] s (s.raise n) := by
  unfold State.raise; split <;> exact touches_setNotices ..

theorem touches_raiseOption (n : Option Notice) : Touches [.notices] s (s.raiseOption n) := by
  cases n
  · exact .refl _ _
  · exact touches_raise ..

theorem touches_choose : Touches [.link, .notices] s s.choose := by
  unfold State.choose
  split
  · exact .refl _ _
  · split
    · exact (touches_setLink ..).mono (by decide)
    · exact .refl _ _
    · exact (touches_setLink ..).seq (touches_setNotices ..) (by decide) (by decide)

theorem touches_report (id : Nat) (f : Counters → Counters) : Touches [.engine] s (s.report id f) := by
  unfold State.report
  split
  · exact .refl _ _
  · split
    · exact touches_setCurrent ..
    · exact .refl _ _

theorem touches_reportDrop (e : StrikeEntry) : Touches [.engine] s (s.reportDrop e) := by
  unfold State.reportDrop
  split
  · exact touches_report ..
  · exact .refl _ _

/-! ## Removals and placements (R118 to R120, R139) -/

theorem touches_removeEntries (out : StrikeEntry → Bool) : Touches [.queue] s (s.removeEntries out) :=
  touches_setQueue ..

theorem touches_dropEntries (out : StrikeEntry → Bool) : Touches [.engine, .queue] s (s.dropEntries out) :=
  (Touches.foldl _ touches_reportDrop _ s).trans (touches_removeEntries ..)

theorem touches_resetShadows (bells : List Bell) : Touches [.planner] s (s.resetShadows bells) :=
  Touches.foldl _ (fun u _ => touches_setShadow u _ _) bells s

theorem touches_flush (out : StrikeEntry → Bool) : Touches [.queue, .planner] s (s.flush out) :=
  (touches_removeEntries ..).trans (touches_resetShadows ..)

theorem touches_flushDropped (out : StrikeEntry → Bool) : Touches [.engine, .queue, .planner] s (s.flushDropped out) :=
  (touches_dropEntries ..).trans (touches_resetShadows ..)

theorem touches_place (e : StrikeEntry) : Touches [.queue, .planner] s (s.place e) :=
  (touches_setQueue ..).trans (touches_setShadow ..)

/-! ## The planner's stint -/

theorem touches_plannerStart (id : Nat) (a : Action) (c : Context) (o : Stb) :
    Touches [.planner] s (s.plannerStart id a c o) := touches_setPlanner ..

theorem touches_plannerStop : Touches [.planner] s s.plannerStop := by
  unfold State.plannerStop
  split
  · exact .refl _ _
  · exact touches_setPlanner ..

theorem touches_plannerEnd : Touches [.planner] s s.plannerEnd := touches_setPlanner ..

theorem touches_plannerStall (c : StallCause) : Touches [.planner] s (s.plannerStall c) := touches_setPlanner ..

theorem touches_setCursor (c : Cursor) : Touches [.planner] s (s.setCursor c) := by
  unfold State.setCursor
  split
  · exact .refl _ _
  · exact touches_setPlanner ..

/-! ## Cues -/

theorem touches_latch (x : Source) : Touches [.schedule] s (s.latch x) := by
  unfold State.latch
  split
  · exact .refl _ _
  · split
    · exact .refl _ _
    · exact touches_setEntry ..

theorem touches_unlatch (x : Source) : Touches [.schedule] s (s.unlatch x) := by
  unfold State.unlatch
  split
  · exact .refl _ _
  · split
    · exact .refl _ _
    · exact touches_setEntry ..

theorem touches_releaseAction (a : Action) : Touches [.scores] s (s.releaseAction a) := by
  cases a
  · exact touches_setSlot ..
  · exact .refl _ _

theorem touches_referAction (a : Action) : Touches [.scores] s (s.referAction a) := by
  cases a
  · exact touches_setSlot ..
  · exact .refl _ _

theorem touches_endCue (c : Cue) (cause : EndCause) : Touches [.notices, .scores, .schedule] s (s.endCue c cause) :=
  ((touches_raise ..).trans (touches_releaseAction ..)).trans (touches_unlatch ..)

theorem touches_giveBack (c : Cue) : Touches [.cues] s (s.giveBack c) := touches_setWaiting ..

/-! ## The engine -/

theorem touches_startStint (c : Cue) (x : Option Context) : Touches [.engine, .planner] s (s.startStint c x) :=
  (touches_setEngine ..).trans (touches_plannerStart ..)

theorem touches_takeHead : Touches [.cues, .engine, .planner] s s.takeHead.1 := by
  unfold State.takeHead
  split
  · exact ((touches_setEngineState ..).trans (touches_setCurrent ..)).seq (touches_plannerEnd ..) (by decide) (by decide)
  · exact (touches_setWaiting ..).trans (touches_startStint ..)

theorem touches_becomeIdle : Touches [.cues, .engine, .planner, .notices] s s.becomeIdle :=
  (touches_takeHead ..).trans (touches_raiseOption ..)

theorem touches_takeIfIdle : Touches [.cues, .engine, .planner, .notices] s s.takeIfIdle := by
  unfold State.takeIfIdle
  split
  · exact touches_becomeIdle ..
  · exact .refl _ _

theorem touches_displace : Touches [.queue, .planner, .cues, .engine, .notices] s s.displace := by
  unfold State.displace
  split
  · exact .refl _ _
  · exact ((((((touches_flush ..).trans (touches_plannerStop ..)).trans (touches_takeHead ..)).trans
      (touches_giveBack ..)).trans (touches_raise ..)).trans (touches_raiseOption ..)).mono (by decide)

theorem touches_startYield : Touches [.engine, .queue, .planner] s s.startYield := by
  unfold State.startYield
  split
  · exact .refl _ _
  · dsimp only
    split
    · exact (touches_setEngine ..).mono (by decide)
    · exact (((touches_setEngine ..).trans (touches_flush ..)).trans (touches_plannerStop ..)).mono (by decide)

theorem touches_completeSuspension (p : Performance) (c : Context) :
    Touches [.cues, .engine, .planner, .notices, .scores, .schedule] s (s.completeSuspension p c) := by
  unfold State.completeSuspension
  dsimp only
  refine Touches.seq (l := [.cues, .engine, .planner, .notices, .scores, .schedule]) ?_ (touches_takeIfIdle _)
    (by decide) (by decide)
  refine Touches.seq (l := [.cues, .engine, .planner, .notices, .scores, .schedule]) ?_ (touches_raiseOption _ _)
    (by decide) (by decide)
  split
  · exact ((touches_takeHead ..).trans (touches_endCue ..)).mono (by decide)
  · exact (((touches_takeHead ..).trans (touches_giveBack ..)).trans (touches_raise ..)).mono (by decide)
  · exact (((touches_takeHead ..).trans (touches_giveBack ..)).trans (touches_raise ..)).mono (by decide)

theorem touches_completePerformance (p : Performance) :
    Touches [.cues, .engine, .planner, .notices, .scores, .schedule] s (s.completePerformance p) :=
  ((((touches_setCurrent ..).trans (touches_plannerEnd ..)).trans (touches_endCue ..)).trans
    (touches_becomeIdle ..)).mono (by decide)

theorem touches_abortPerformance (p : Performance) :
    Touches [.queue, .cues, .engine, .planner, .notices, .scores, .schedule] s (s.abortPerformance p) := by
  unfold State.abortPerformance
  exact ((((((touches_flushDropped ..).trans (touches_plannerStop ..)).trans (touches_setCurrent ..)).trans
    (touches_plannerEnd ..)).trans (touches_endCue ..)).trans (touches_becomeIdle ..)).mono (by decide)

theorem touches_arrival (priority : Nat) :
    Touches [.queue, .planner, .cues, .engine, .notices] s (s.arrival priority) := by
  unfold State.arrival
  split
  · exact (touches_becomeIdle ..).mono (by decide)
  · split
    · exact touches_displace ..
    · exact .refl _ _
  · split
    · exact (touches_startYield ..).mono (by decide)
    · exact .refl _ _
  · exact .refl _ _

theorem touches_enterList (c : Cue) :
    Touches [.queue, .planner, .cues, .engine, .notices, .scores, .schedule] s (s.enterList c) :=
  ((((touches_setCues ..).trans (touches_referAction ..)).trans (touches_latch ..)).trans (touches_arrival ..)).mono
    (by decide)

/-- A cue that is offered and admitted touches what its admission and an eviction touch (R67). -/
theorem touches_offer (c : Cue) (x : State × Nat) (h : s.offer c = some x) :
    Touches [.queue, .planner, .cues, .engine, .notices, .scores, .schedule] s x.1 := by
  unfold State.offer State.makeRoom at h
  split at h
  · cases h
  · rename_i u hu
    cases h
    refine Touches.seq (l := [.cues, .notices, .scores, .schedule]) ?_ (touches_enterList ..) (by decide) (by decide)
    split at hu
    · cases hu; exact .refl _ _
    · split at hu
      · cases hu; exact .refl _ _
      · split at hu
        · cases hu; exact ((touches_setWaiting ..).trans (touches_endCue ..)).mono (by decide)
        · cases hu

/-! ## Taking records -/

theorem touches_reportDone : Touches [.engine] s s.reportDone := by
  unfold State.reportDone
  split
  · exact touches_setEngineState ..
  · split
    · exact touches_setEngine ..
    · exact .refl _ _
  · exact .refl _ _

theorem touches_doneIfLast : Touches [.planner, .engine] s s.doneIfLast := by
  unfold State.doneIfLast
  split
  · exact (touches_setPlanner ..).trans (touches_reportDone ..)
  · exact .refl _ _

theorem touches_offerYieldPoint (c : LogContext) : Touches [.engine, .planner] s (s.offerYieldPoint c) := by
  unfold State.offerYieldPoint
  split
  · split
    · split
      · exact (touches_setCurrent ..).trans (touches_plannerStop ..)
      · exact .refl _ _
    · exact .refl _ _
  · exact .refl _ _

theorem touches_takeMark (c : Cursor) : Touches [.planner, .engine] s (s.takeMark c) :=
  (((touches_setCursor ..).trans (touches_setPlanner ..)).trans (touches_offerYieldPoint ..)).mono (by decide)

theorem touches_reportPlanned : Touches [.engine] s s.reportPlanned := by
  unfold State.reportPlanned
  split
  · exact touches_report ..
  · exact .refl _ _

theorem touches_reportNoteDropped : Touches [.engine] s s.reportNoteDropped := by
  unfold State.reportNoteDropped
  split
  · exact touches_report ..
  · exact .refl _ _

theorem touches_takeNote (b : Bell) (v : Nat) (c : Cursor) :
    Touches [.planner, .engine, .queue] s (s.takeNote b v c) := by
  unfold State.takeNote
  split
  · exact (touches_plannerStall ..).mono (by decide)
  · exact ((((touches_setCursor ..).trans (touches_reportPlanned ..)).trans (touches_reportNoteDropped ..)).trans
      (touches_doneIfLast ..)).mono (by decide)
  · exact ((((touches_place ..).trans (touches_setCursor ..)).trans (touches_reportPlanned ..)).trans
      (touches_doneIfLast ..)).mono (by decide)

theorem touches_takeItem : Touches [.planner, .engine, .queue] s s.takeItem := by
  unfold State.takeItem
  split
  · exact .refl _ _
  · exact touches_takeNote ..
  · exact ((touches_setCursor ..).trans (touches_doneIfLast ..)).mono (by decide)
  · exact ((touches_setCursor ..).trans (touches_doneIfLast ..)).mono (by decide)
  all_goals
    split
    · exact (touches_takeMark ..).mono (by decide)
    · exact (touches_plannerStall ..).mono (by decide)

theorem touches_takeItems : ∀ (fuel : Nat) (s : State), Touches [.planner, .engine, .queue] s (State.takeItems fuel s)
  | 0, s => .refl _ s
  | fuel + 1, s => by
    unfold State.takeItems
    split
    · exact (touches_takeItem s).seq (touches_takeItems fuel _) (fun _ => id) fun _ => id
    · exact .refl _ _

theorem touches_takeDue : Touches [.planner, .engine, .queue] s s.takeDue := touches_takeItems ..

theorem touches_resumePlanning : Touches [.planner, .engine, .queue] s s.resumePlanning :=
  ((touches_setPlanner ..).trans (touches_takeDue ..)).mono (by decide)

theorem touches_retireContexts : Touches [.planner] s s.retireContexts := touches_setPlanner ..

/-! ## Channels and windows -/

theorem touches_withdraw (b : Bell) (next : ChannelState) :
    Touches [.channels, .engine, .queue, .planner] s (s.withdraw b next) :=
  ((touches_setChannel ..).trans (touches_dropEntries ..)).trans (touches_resetShadows ..)

theorem touches_faultChannel (b : Bell) (cause : FaultCause) :
    Touches [.channels, .engine, .queue, .planner, .bells, .notices] s (s.faultChannel b cause) := by
  unfold State.faultChannel
  split
  · exact ((touches_withdraw ..).trans (touches_setBell ..)).trans (touches_raise ..)
  · exact .refl _ _

theorem touches_miss (b : Bell) : Touches [.channels, .engine, .queue, .planner, .bells, .notices] s (s.miss b) := by
  unfold State.miss
  dsimp only
  split
  · exact ((touches_setBell ..).trans (touches_faultChannel ..)).mono (by decide)
  · exact (touches_setBell ..).mono (by decide)

theorem touches_supersedeWindow (b : Bell) :
    Touches [.monitor, .channels, .engine, .queue, .planner, .bells, .notices] s (s.supersedeWindow b) := by
  unfold State.supersedeWindow
  split
  · exact .refl _ _
  · split
    · exact (touches_setWindow ..).mono (by decide)
    · exact (touches_setWindow ..).trans (touches_miss ..)

theorem touches_openWindow (b : Bell) (v : Nat) :
    Touches [.monitor, .channels, .engine, .queue, .planner, .bells, .notices] s (s.openWindow b v) := by
  unfold State.openWindow
  dsimp only
  split
  · exact touches_supersedeWindow ..
  · exact ((touches_supersedeWindow ..).trans (touches_setWindow ..)).mono (by decide)

theorem touches_closeWindow (b : Bell) (w : Window) :
    Touches [.monitor, .channels, .engine, .queue, .planner, .bells, .notices] s (s.closeWindow b w) := by
  unfold State.closeWindow
  split
  · exact (touches_setWindow ..).mono (by decide)
  · exact (touches_setWindow ..).trans (touches_miss ..)

theorem touches_judge (b : Bell) (obs : Nat) :
    Touches [.channels, .engine, .queue, .planner, .bells, .notices] s (s.judge b obs) := by
  unfold State.judge
  dsimp only
  split
  · split
    · exact ((touches_setBell ..).trans (touches_faultChannel ..)).mono (by decide)
    · exact (touches_setBell ..).mono (by decide)
  · exact (touches_setBell ..).mono (by decide)

theorem touches_observation (edge : Nat) (pulseStart : Stb) :
    Touches [.freeIndex] s (s.observation edge pulseStart).2 := by
  unfold State.observation
  split
  · exact .refl _ _
  · exact touches_setFreeIndex ..

theorem touches_windowImpact (b : Bell) (w : Window) (edge : Nat) :
    Touches [.freeIndex, .monitor, .channels, .engine, .queue, .planner, .bells, .notices] s
      (s.windowImpact b w edge) := by
  unfold State.windowImpact
  split
  · exact .refl _ _
  · exact ((touches_observation ..).trans (touches_setWindow ..)).trans (touches_judge ..)

theorem touches_stray (b : Bell) : Touches [.bells, .notices] s (s.stray b) := by
  unfold State.stray
  dsimp only
  split
  · exact (touches_setBell ..).trans (touches_raise ..)
  · exact (touches_setBell ..).mono (by decide)

theorem touches_reportFired (e : StrikeEntry) : Touches [.engine] s (s.reportFired e) := by
  unfold State.reportFired
  split
  · exact .refl _ _
  · dsimp only
    split
    · exact ((touches_report ..).trans (touches_report ..)).mono (by decide)
    · exact touches_report ..

theorem touches_fire (e : StrikeEntry) :
    Touches [.queue, .reservoir, .channels, .bells, .engine, .monitor, .planner, .notices] s (s.fire e) := by
  unfold State.fire
  exact ((((((touches_setQueue ..).trans (touches_setReservoir ..)).trans (touches_setChannel ..)).trans
    (touches_setBell ..)).trans (touches_reportFired ..)).trans (touches_openWindow ..)).mono (by decide)

theorem touches_dropLate (e : StrikeEntry) : Touches [.queue, .engine] s (s.dropLate e) :=
  (touches_setQueue ..).trans (touches_reportDrop ..)

theorem touches_dropAllLate : Touches [.engine, .queue] s s.dropAllLate := touches_dropEntries ..

theorem touches_endPulse (b : Bell) (p : Stb) : Touches [.channels] s (s.endPulse b p) := touches_setChannel ..

/-! ## The channel test -/

theorem touches_endTest (t : ChannelTest) : Touches [.monitor, .channels] s (s.endTest t) :=
  (touches_setTest ..).trans (touches_setChannel ..)

theorem touches_settleTest (t : ChannelTest) (r : TestResult) : Touches [.monitor, .notices] s (s.settleTest t r) :=
  (touches_setTest ..).trans (touches_raise ..)

theorem touches_endTestPulse (t : ChannelTest) (p : Stb) : Touches [.channels] s (s.endTestPulse t p) :=
  touches_setChannel ..

theorem touches_cutTestPulse (t : ChannelTest) : Touches [.channels] s (s.cutTestPulse t) :=
  touches_setChannel ..

theorem touches_shortTest (t : ChannelTest) : Touches [.channels, .monitor, .notices] s (s.shortTest t) :=
  (touches_cutTestPulse ..).trans (touches_settleTest ..)

theorem touches_startTestPulse (t : ChannelTest) :
    Touches [.reservoir, .channels, .monitor, .notices] s (s.startTestPulse t) := by
  unfold State.startTestPulse
  dsimp only
  split
  · exact (((touches_setReservoir ..).trans (touches_setChannel ..)).trans (touches_shortTest ..)).mono (by decide)
  · exact (((touches_setReservoir ..).trans (touches_setChannel ..)).trans (touches_setTest ..)).mono (by decide)

theorem touches_finishTestPulse (t : ChannelTest) (p : Stb) :
    Touches [.channels, .monitor, .notices] s (s.finishTestPulse t p) := by
  unfold State.finishTestPulse
  dsimp only
  split
  · exact (touches_endTestPulse ..).trans (touches_settleTest ..)
  · split
    · exact (touches_endTestPulse ..).trans (touches_settleTest ..)
    · exact ((touches_endTestPulse ..).trans (touches_setTest ..)).mono (by decide)

theorem touches_testImpact (b : Bell) (edge : Nat) :
    Touches [.monitor, .notices] s (s.testImpact b edge) := by
  unfold State.testImpact
  split
  · exact .refl _ _
  · split
    · dsimp only
      split
      · exact touches_settleTest ..
      · exact (touches_setTest ..).mono (by decide)
    · exact .refl _ _

theorem touches_closeTestWindow (t : ChannelTest) :
    Touches [.monitor, .notices, .channels] s (s.closeTestWindow t) := by
  unfold State.closeTestWindow
  dsimp only
  split
  · exact ((touches_settleTest ..).trans (touches_endTest ..)).mono (by decide)
  · exact (touches_settleTest ..).mono (by decide)

theorem touches_expireTest (t : ChannelTest) :
    Touches [.reservoir, .notices, .monitor, .channels] s (s.expireTest t) :=
  ((touches_setReservoir ..).trans (touches_raise ..)).trans (touches_endTest ..)

theorem touches_interruptTest : Touches [.reservoir, .channels, .monitor] s s.interruptTest.1 := by
  unfold State.interruptTest
  split
  · exact .refl _ _
  · split
    · exact ((touches_setReservoir ..).trans (touches_endTest ..)).mono (by decide)
    · exact ((touches_cutTestPulse ..).trans (touches_endTest ..)).mono (by decide)
    · exact (touches_endTest ..).mono (by decide)
    · exact (touches_endTest ..).mono (by decide)

theorem touches_acceptTest (b : Bell) :
    Touches [.monitor, .channels, .engine, .queue, .planner, .reservoir] s (s.acceptTest b) := by
  unfold State.acceptTest
  exact ((((((touches_setTest ..).trans (touches_setWindow ..)).trans (touches_setChannel ..)).trans
    (touches_dropEntries ..)).trans (touches_setShadow ..)).trans (touches_setReservoir ..)).mono (by decide)

/-! ## Holds and the rail -/

theorem touches_holdPerformance : Touches [.engine, .planner] s s.holdPerformance := by
  unfold State.holdPerformance
  split
  · exact .refl _ _
  · exact (touches_setEngine ..).trans (touches_plannerEnd ..)

theorem touches_enterHold :
    Touches [.queue, .channels, .monitor, .reservoir, .planner, .engine, .notices] s s.enterHold := by
  unfold State.enterHold
  exact (((((((((touches_setQueue ..).trans (touches_setChannels ..)).trans (touches_setMonitor ..)).trans
    (touches_interruptTest ..)).trans (touches_resetShadows ..)).trans (touches_holdPerformance ..)).trans
    (touches_setEngine ..)).trans (touches_raise ..)).trans (touches_raiseOption ..)).mono (by decide)

theorem touches_sourceAppears (h : HoldSource) :
    Touches [.queue, .channels, .monitor, .reservoir, .planner, .engine, .notices] s (s.sourceAppears h) := by
  unfold State.sourceAppears
  dsimp only
  split
  · exact ((touches_setEngine ..).trans (touches_setEngine ..)).mono (by decide)
  · exact (touches_setEngine ..).seq (touches_enterHold ..) (by decide) (by decide)

theorem touches_sourceLeaves (h : HoldSource) : Touches [.engine] s (s.sourceLeaves h) := by
  unfold State.sourceLeaves
  dsimp only
  split
  · exact ((touches_setEngine ..).trans (touches_setEngine ..)).mono (by decide)
  · exact touches_setEngine ..

theorem touches_leaveHold : Touches [.queue, .planner, .cues, .engine, .notices] s s.leaveHold := by
  unfold State.leaveHold
  dsimp only
  split
  · split
    · exact (((((touches_setEngine ..).trans (touches_raise ..)).trans (touches_setEngine ..)).trans
        (touches_startStint ..)).trans (touches_displace ..)).mono (by decide)
    · exact ((((touches_setEngine ..).trans (touches_raise ..)).trans (touches_setEngine ..)).trans
        (touches_startStint ..)).mono (by decide)
  · exact (((touches_setEngine ..).trans (touches_raise ..)).trans (touches_becomeIdle ..)).mono (by decide)

theorem touches_deriveRail :
    Touches [.queue, .channels, .monitor, .reservoir, .planner, .engine, .notices] s s.deriveRail := by
  unfold State.deriveRail
  dsimp only
  split
  · exact .refl _ _
  · split
    · exact ((((touches_setReservoir ..).trans (touches_raise ..)).trans (touches_setReservoir ..)).trans
        (touches_sourceAppears ..)).mono (by decide)
    · split
      · exact (((touches_setReservoir ..).trans (touches_raise ..)).trans (touches_sourceLeaves ..)).mono (by decide)
      · exact ((touches_setReservoir ..).trans (touches_raise ..)).mono (by decide)

theorem touches_settleRail (line : RailLine) :
    Touches [.queue, .channels, .monitor, .reservoir, .planner, .engine, .notices] s (s.settleRail line) :=
  (touches_setReservoir ..).seq (touches_deriveRail ..) (by decide) (by decide)

theorem touches_settleInterlock :
    Touches [.queue, .channels, .monitor, .reservoir, .planner, .engine, .notices] s s.settleInterlock := by
  unfold State.settleInterlock
  dsimp only
  split
  · exact (touches_setEngine ..).seq (touches_sourceAppears ..) (by decide) (by decide)
  · exact ((touches_setEngine ..).trans (touches_sourceLeaves ..)).mono (by decide)

/-! ## Evaluated seconds -/

theorem touches_fireEntry (i : EntryNo) (e : SchedEntry) (t : CalTime) :
    Touches [.queue, .planner, .cues, .engine, .notices, .scores, .schedule] s (s.fireEntry i e t) := by
  unfold State.fireEntry
  split
  · exact (touches_raise ..).mono (by decide)
  · split
    · exact (touches_raise ..).mono (by decide)
    · split
      · exact (touches_raise ..).mono (by decide)
      · rename_i h; exact touches_offer _ _ _ h

theorem touches_walkEntry (t : CalTime) (i : EntryNo) :
    Touches [.queue, .planner, .cues, .engine, .notices, .scores, .schedule] s (State.walkEntry t s i) := by
  unfold State.walkEntry
  split
  · exact .refl _ _
  · dsimp only
    split
    · exact (touches_setEntry ..).seq (touches_fireEntry ..) (by decide) (by decide)
    · exact .refl _ _

theorem touches_evaluate (t : CalTime) :
    Touches [.queue, .planner, .cues, .engine, .notices, .scores, .schedule] s (s.evaluate t) :=
  Touches.foldl _ (fun u i => touches_walkEntry u t i) _ s

theorem touches_catchUp : ∀ (n : Nat) (t : CalTime) (s : State),
    Touches [.queue, .planner, .cues, .engine, .notices, .scores, .schedule] s (State.catchUp n t s)
  | 0, _, s => .refl _ s
  | n + 1, _, s => (touches_evaluate s _).seq (touches_catchUp n _ _) (fun _ => id) fun _ => id

theorem touches_stepSecond :
    Touches [.calendar, .queue, .planner, .cues, .engine, .notices, .scores, .schedule] s s.stepSecond := by
  unfold State.stepSecond
  dsimp only
  split
  · exact (touches_setCalendar ..).trans (touches_evaluate ..)
  · exact (touches_setCalendar ..).mono (by decide)

theorem touches_setTime (t : CalTime) :
    Touches [.calendar, .queue, .planner, .cues, .engine, .notices, .scores, .schedule] s (s.setTime t) := by
  unfold State.setTime
  dsimp only
  split
  · exact (touches_setCalendar ..).trans (touches_evaluate ..)
  · split
    · exact (touches_setCalendar ..).trans (touches_catchUp ..)
    · split
      · exact (touches_setCalendar ..).trans (touches_evaluate ..)
      · exact (((touches_setCalendar ..).trans (touches_raise ..)).trans (touches_evaluate ..)).mono (by decide)

end Sys2Proof.Machine
end

