-- ==== Sys2Proof/Laws/Ops.lean ====
section
/-! SUPPORT. What the shared operations do, each said once: notices, the transmitter's choice, the ends of cues, requests
handed over at once. -/

namespace Sys2Proof.Machine

/-! ## Commands of the operating part -/

theorem whenOperating_on (s : State) (f : State → State) (h : s.supply.operating = true) :
    whenOperating s f = .next (f s).choose := by
  simp [whenOperating, h]

theorem whenOperating_off (s : State) (f : State → State) (h : s.supply.operating = false) :
    whenOperating s f = .next s := by
  simp [whenOperating, h]

theorem atAnyTime_on (s : State) (f : State → State) (h : s.supply.operating = true) :
    atAnyTime s f = .next (f s).choose := by
  simp [atAnyTime, h]

theorem atAnyTime_off (s : State) (f : State → State) (h : s.supply.operating = false) :
    atAnyTime s f = .next (f s) := by
  simp [atAnyTime, h]

/-! ## Notices (R197) -/

/-- A raise changes the Notice Queue alone. -/
theorem State.raise_eq (s : State) (n : Notice) : s.raise n = { s with notices := (s.raise n).notices } := by
  unfold State.raise; split <;> rfl

/-! Every other part is the same after a raise. -/

@[simp] theorem State.raise_pending (s : State) (n : Notice) : (s.raise n).pending = s.pending := by rw [State.raise_eq]
@[simp] theorem State.raise_stb (s : State) (n : Notice) : (s.raise n).stb = s.stb := by rw [State.raise_eq]
@[simp] theorem State.raise_refillDue (s : State) (n : Notice) : (s.raise n).refillDue = s.refillDue := by rw [State.raise_eq]
@[simp] theorem State.raise_freeIndex (s : State) (n : Notice) : (s.raise n).freeIndex = s.freeIndex := by rw [State.raise_eq]
@[simp] theorem State.raise_supply (s : State) (n : Notice) : (s.raise n).supply = s.supply := by rw [State.raise_eq]
@[simp] theorem State.raise_calendar (s : State) (n : Notice) : (s.raise n).calendar = s.calendar := by rw [State.raise_eq]
@[simp] theorem State.raise_schedule (s : State) (n : Notice) : (s.raise n).schedule = s.schedule := by rw [State.raise_eq]
@[simp] theorem State.raise_scores (s : State) (n : Notice) : (s.raise n).scores = s.scores := by rw [State.raise_eq]
@[simp] theorem State.raise_cues (s : State) (n : Notice) : (s.raise n).cues = s.cues := by rw [State.raise_eq]
@[simp] theorem State.raise_engine (s : State) (n : Notice) : (s.raise n).engine = s.engine := by rw [State.raise_eq]
@[simp] theorem State.raise_planner (s : State) (n : Notice) : (s.raise n).planner = s.planner := by rw [State.raise_eq]
@[simp] theorem State.raise_queue (s : State) (n : Notice) : (s.raise n).queue = s.queue := by rw [State.raise_eq]
@[simp] theorem State.raise_channels (s : State) (n : Notice) : (s.raise n).channels = s.channels := by rw [State.raise_eq]
@[simp] theorem State.raise_reservoir (s : State) (n : Notice) : (s.raise n).reservoir = s.reservoir := by rw [State.raise_eq]
@[simp] theorem State.raise_monitor (s : State) (n : Notice) : (s.raise n).monitor = s.monitor := by rw [State.raise_eq]
@[simp] theorem State.raise_bells (s : State) (n : Notice) : (s.raise n).bells = s.bells := by rw [State.raise_eq]
@[simp] theorem State.raise_link (s : State) (n : Notice) : (s.raise n).link = s.link := by rw [State.raise_eq]

/-- What a raise leaves in the Notice Queue depends on the Notice Queue alone. -/
theorem State.raise_notices_congr {s t : State} (n : Notice) (h : s.notices = t.notices) :
    (s.raise n).notices = (t.raise n).notices := by
  unfold State.raise; rw [h]; split <;> rfl

/-- The queue keeps its bound (R197). -/
theorem State.raise_bound (s : State) (n : Notice) (h : s.notices.waiting.length ≤ 32) :
    (s.raise n).notices.waiting.length ≤ 32 := by
  unfold State.raise
  split
  · rename_i hl
    simp only [Config.noticeMax] at hl
    simp
    omega
  · simpa using h

/-! ## The transmitter (R196) -/

/-- With nothing to choose the choice changes nothing. -/
theorem State.choose_idle (s : State) (h : s.choiceWaits = false) : s.choose = s := by
  unfold State.choiceWaits at h
  unfold State.choose
  split
  · rfl
  · rename_i ht
    rw [ht] at h
    simp only [Bool.or_eq_false_iff, Option.isSome_eq_false_iff, Option.isNone_iff_eq_none] at h
    obtain ⟨hr, hn⟩ := h
    cases hw : s.notices.waiting with
    | nil => rw [hr]
    | cons n rest => rw [hw] at hn; simp at hn

/-! ## Ends of cues (R70) -/

/-- A cue's end changes the Notice Queue, its slot's reference count and its entry's latch, each apart. -/
theorem State.endCue_eq (s : State) (c : Cue) (cause : EndCause) :
    s.endCue c cause =
      { s with
        notices := (s.raise (.cueEnd c.id cause c.counters)).notices
        scores := (s.releaseAction c.action).scores
        schedule := (s.unlatch c.source).schedule } := by
  obtain ⟨id, source, action⟩ := c
  unfold State.endCue
  rw [State.raise_eq]
  cases action <;> cases source <;> simp only [State.releaseAction, State.dropReference, State.unlatch] <;>
    first
      | rfl
      | (split <;> simp_all [State.setScores, State.setSchedule])

/-! ## Shadows (R120) -/

/-- Shadows are set anew for the listed bells alone, each as it follows from the state before, and nothing else changes. -/
theorem State.resetShadows_eq (l : List Bell) (s : State) :
    ∃ v, s.resetShadows l = s.setPlanner { s.planner with shadow := v }
      ∧ ∀ b : Bell, v[b] = if b ∈ l then s.shadowAfterRemoval b else s.planner.shadow[b] := by
  induction l generalizing s with
  | nil => exact ⟨s.planner.shadow, rfl, fun _ => by simp⟩
  | cons x l ih =>
    obtain ⟨v, h1, h2⟩ := ih (s.setShadow x (s.shadowAfterRemoval x))
    refine ⟨v, h1, fun b => ?_⟩
    rw [h2 b]
    by_cases hl : b ∈ l
    · simp only [hl, List.mem_cons, or_true, if_true]; rfl
    · by_cases hx : b = x
      · subst hx; simp [hl]
      · have hne : (x : Nat) ≠ (b : Nat) := fun e => hx (Fin.ext e.symm)
        simp [hl, hx, Vector.getElem_set_ne, hne]

/-! ## Stops and starts (R202 to R206) -/

/-- An input left unread twice is as left unread once. -/
@[simp] theorem ImpactInput.idle_idle (i : ImpactInput) : i.idle.idle = i.idle := by cases i <;> rfl

/-- A warm start's calendar is the counted one. -/
theorem Calendar.afterWarm_eq (c : Calendar) : c.afterWarm = c.counted := rfl

@[simp] theorem Supply.watchRetention_operating (x : Supply) : x.watchRetention.operating = x.operating := rfl
@[simp] theorem Supply.watchRetention_mainInRange (x : Supply) : x.watchRetention.mainInRange = x.mainInRange := rfl
@[simp] theorem Supply.watchRetention_rstnHigh (x : Supply) : x.watchRetention.rstnHigh = x.rstnHigh := rfl
@[simp] theorem Supply.watchRetention_vbakLow (x : Supply) : x.watchRetention.vbakLow = x.vbakLow := rfl
@[simp] theorem Supply.watchRetention_starting (x : Supply) : x.watchRetention.starting = x.starting := rfl
@[simp] theorem Supply.watchRetention_startCause (x : Supply) : x.watchRetention.startCause = x.startCause := rfl

/-- With main power in range the Retention Monitor keeps the latch (R202). -/
theorem Supply.watchRetention_inRange (x : Supply) (h : x.mainInRange = true) : x.watchRetention = x := by
  cases x; simp_all [Supply.watchRetention]

/-- A stop's own notion of the state it leaves, field by field (R203). -/
theorem State.stopOperation_eq (s : State) :
    s.stopOperation =
      { s with
        supply := { s.supply with operating := false, starting := none }
        channels := s.channels.map fun c => { c with gate := false }
        link := { s.link with holdo := false, transmitter := .idle, restartPending := false }
        monitor := { s.monitor with inputs := s.monitor.inputs.map ImpactInput.idle } } := rfl

/-- The part with START announced, before operation: the queue holds START, and HOLD with a source present (R207). -/
theorem State.announceStart_notices (s : State) (cause : StartCause) :
    (s.announceStart cause).notices.waiting =
      .start cause ::
        (if s.engine.sourcePresent then [.hold true s.engine.interlock s.engine.fail] else []) := by
  unfold State.announceStart
  split <;> rename_i h <;> simp_all [State.raise, Config.noticeMax]

/-! ## The FIFO's drain (R187, R194) -/

/-- With a frame held nothing leaves the FIFO. -/
theorem State.drain_ended (n : Nat) (s : State) (h : s.link.ended.isSome = true) : State.drain n s = s := by
  cases n with
  | zero => rfl
  | succ n =>
    unfold State.drain
    split
    · rename_i he _; rw [he] at h; cases h
    · rfl

/-- With nothing in the FIFO nothing leaves it. -/
theorem State.drain_empty (n : Nat) (s : State) (h : s.link.fifo = []) : State.drain n s = s := by
  cases n with
  | zero => rfl
  | succ n => unfold State.drain; split <;> simp_all

/-! ## Requests (R194, R195) -/

theorem ofCode_code (k : ReqKind) : ReqKind.ofCode k.code = some k := by cases k <;> decide

/-- To a listening part a request's frame is handed over at once. -/
theorem requestArrives_listening (s : State) (kind tag : Byte) (p : List Byte) (h : Listening s) :
    requestArrives kind tag p s =
      .next ((answer kind p s).state.answering kind tag (answer kind p s).status (answer kind p s).fields) := by
  simp only [requestArrives, whenOperating_on _ _ h.1, State.receiveRequest, h.2, if_true]
  rfl

/-- The command of a request's kind, of the right length, answers as the owning block does. -/
theorem exec_request (s : State) (k : ReqKind) (tag : Byte) (p : List Byte) (h : Listening s)
    (hl : lengthRight k p.length = true) :
    exec (commandOf k.code tag p) s =
      .next
        ((blockAnswer k p s).state.answering k.code tag (blockAnswer k p s).status (blockAnswer k p s).fields) := by
  have ha : answer k.code p s = blockAnswer k p s := by simp [answer, ofCode_code, hl]
  rw [← ha, ← requestArrives_listening s _ _ _ h]
  cases k <;> rfl

end Sys2Proof.Machine
end

