-- ==== Sys2Proof/WellFormed.lean ====
section
/-! DEFINITION. Which commands can be sent at all: what the syntax leaves open and the link cannot carry. -/

namespace Sys2Proof

/-- A payload is at most 120 bytes (R189, LEN). -/
def payloadFits (payload : List Byte) : Bool :=
  decide (payload.length ≤ 120)

/-- What of a rejected frame has arrived, by its reason (R190, R191): a LENGTH rejection comes before KIND; a
TIMEOUT may come before KIND, between KIND and TAG, or after TAG; every other rejection comes with the CHECK byte. -/
def rejectParts (reason : RejectReason) (kind tag : Option Byte) : Bool :=
  match reason with
  | .length => kind.isNone && tag.isNone
  | .timeout => kind.isSome || tag.isNone
  | .check | .parity | .framing | .overrun => kind.isSome && tag.isSome

/-- The commands that the line, the pins and the part can give rise to. -/
def wellFormed : Instr → Bool
  | .status _ p | .restart _ p | .timeSet _ p | .timeGet _ p | .scoreBegin _ p | .scoreData _ p | .scoreEnd _ p
  | .scoreErase _ p | .scoreInfo _ p | .schedWrite _ p | .schedRead _ p | .schedEnable _ p | .schedClear _ p
  | .play _ p | .stop _ p | .cueRead _ p | .settingsWrite _ p | .settingsRead _ p | .bellWrite _ p | .bellRead _ p
  | .bellEnable _ p | .bellDisable _ p | .bellClearFault _ p | .strike _ p | .testChannel _ p => payloadFits p
  | .badKindRequest kind _ p => (ReqKind.ofCode kind).isNone && payloadFits p
  | .frameReject reason kind tag => rejectParts reason kind tag
  -- A cue's id is 1 to 255 (R64).
  | .cueExpiry cueId => decide (cueId ≠ 0)
  | .byteReceived .. | .gapTimeout | .lineBreak | .transmitFrameEnd | .secondStep | .heldExpiry | .stintOrigin
  | .yieldCut | .suspensionComplete | .performanceComplete | .ilockLineChange _ | .interlockDebounced | .settleEnd
  | .plannerTake | .plannerResume | .contextRetire | .entryFire | .lateDrop | .pulseEnd _ | .recoveryEnd _
  | .refillStep | .railLineChange .. | .railDebounced _ | .impactInputAssert .. | .impactRecognised _
  | .windowClose _ | .testPulseStart | .testWaitDeadline | .isminAssert _ | .isovrAssert _ | .testPulseEnd
  | .testWindowClose | .testEnd | .mainPowerFail | .rstnLow | .vbakLow | .powerOnStart _ | .resetPinStart _
  | .restartTakesEffect _ | .impactInputClear _ | .lineReturnToMark => true

end Sys2Proof
end

