-- ==== Sys2Proof/Tests/Slice0.lean ====
section
/-! SUPPORT. Tests: the checks of WellFormed refuse what they should, single steps on small states against the manual's own
figures, and, for every statement with hypotheses, a theorem that something concrete meets them, clause by clause. -/

namespace Sys2Proof.Tests

open Sys2Proof.Machine

/-! ## Small states -/

/-- What a command leaves. -/
def after (c : Instr) (s : State) : State :=
  match exec c s with
  | .next t => t
  | _ => s

/-- Right after reset, with START already sent. -/
def silent : State := { State.reset with link := { State.reset.link with transmitter := .idle } }

/-- The inputs of a start with the straps low and VBAK sound, that gets so far. -/
def startTo (reach : StartReach) : StartInputs := { straps := 0, vbakLow := false, reach := reach }

/-- Bell 3 of the manual's examples: width 20, recovery 200, class 1, floor 60, ceiling 200, seed 120 (06, R115, R116). -/
def bell3 : BellRecord :=
  { coldBell with
    config :=
      { present := true, driveWidth := 20, recovery := 200, coilClass := 1, floor := 60, ceiling := 200, seed := 120
        learning := true }
    enabled := true, flight := 1920 }

/-- Bell 3 in service, its channel in a state. -/
def served (c : ChannelState) : State :=
  { silent with
    bells := silent.bells.set 3 bell3, channels := silent.channels.set 3 { restChannel c with recoveryEnd := 200 }
    reservoir := { silent.reservoir with charge := 100 } }

/-- A cue on bell 3: three strokes at velocity 6, 600 ms apart. -/
def chime (id priority : Nat) (mode : Mode) (maxWait : Nat) : Cue :=
  { id := id, source := .schedule 7, action := .count 3 6 600 3, priority := priority, mode := mode, maxWait := maxWait
    entryTime := 0, started := false, saved := none, counters := zeroCounters }

/-- A performance of a cue. -/
def performing (c : Cue) : Performance :=
  { cue := c, context := firstStroke, fromSaved := false, start := 0, origin := 1000, yield := none }

/-- The engine in a state with a current performance, a list of waiting cues, at an STB. -/
def playing (e : EngineState) (p : Performance) (waiting : List Cue) (now : Stb) : State :=
  { silent with
    stb := now, cues := { waiting := waiting, nextId := 9 }
    engine := { silent.engine with state := e, current := some p } }

/-- The engine in a hold with a held cue. -/
def holding (c : Cue) (now : Stb) : State :=
  { silent with
    stb := now
    engine :=
      { silent.engine with
        state := .held, held := some { cue := c, context := firstStroke }, settle := some 2000 } }

/-- A direct entry on bell 3. -/
def stroke (target earliest : Stb) : StrikeEntry :=
  { bell := 3, velocity := 6, width := 18, cost := 18, target := target, earliest := earliest, sound := 500
    origin := .direct }

/-- A test of bell 3 in a phase. -/
def testing3 (phase : TestPhase) : ChannelTest :=
  { bell := 3, phase := phase, acceptedAt := 0, deadline := 1000, width := 20, cost := 20, windowLength := 420
    earlyLimit := 480, pulseStart := some 100, pulseEnd := some 120, minSeen := true, observation := none
    result := none }

/-- Bell 3 under test, at an STB. -/
def tested (t : ChannelTest) (now recoveryEnd : Stb) : State :=
  { served .testing with
    stb := now, monitor := { silent.monitor with test := some t, inputs := silent.monitor.inputs.set 3 (.filtering 1600) }
    reservoir := { silent.reservoir with charge := 100, testDraw := some (3, 20) }
    channels := silent.channels.set 3 { restChannel .testing with prior := some .ready, recoveryEnd := recoveryEnd } }

/-- Bell 3 heard at velocity 6, its window open from STB 100, the leading edge given. -/
def answering3 (edge : Nat) (r : BellRecord) (answered : Bool) (now : Stb) : State :=
  { served .recovering with
    stb := now, bells := silent.bells.set 3 r
    monitor :=
      { silent.monitor with
        inputs := silent.monitor.inputs.set 3 (.filtering edge)
        windows := silent.monitor.windows.set 3
          (some { pulseStart := 100, velocity := 6, closeTime := 345, answered := answered }) } }

/-- A link as the manual's link examples have it: collecting or not, holding a frame or not. -/
def linked (a : Assembler) (held : Option EndedFrame) (reply : Option Frame) (fifo : List RxByte) : State :=
  { silent with
    stb := 100
    link :=
      { silent.link with
        assembler := a, ended := held, reply := reply, fifo := fifo
        gapDeadline := if a.collecting then some 100 else none } }

/-- A reply that waits. -/
def someReply : Frame := { kind := 0x81, tag := 1, payload := [0] }

/-- A slot with one NOTE of bell 5 at velocity 3, in a state. -/
def oneNote (state : SlotState) (offset : Nat) : Slot :=
  { state := state
    header := some { recordCount := 1, defaultBeat := 437, repeats := 2, repeatGap := 24 }
    chain := [0], nextOffset := offset, refCount := 0 }

/-- The store with that slot as slot 0. -/
def stored (x : Slot) (mem : List Host.Cell) : State :=
  { silent with scores := { slots := silent.scores.slots.set 0 x, mem := mem } }

/-! ## WellFormed refuses ill-formed commands -/

theorem test_wellFormed_payload_too_long : wellFormed (.status 0 (List.replicate 121 0)) = false := by decide
theorem test_wellFormed_payload_longest : wellFormed (.scoreData 0 (List.replicate 120 0)) = true := by decide
theorem test_wellFormed_kind_known : wellFormed (.badKindRequest 0x55 0 []) = false := by decide
theorem test_wellFormed_kind_long : wellFormed (.badKindRequest 0x43 0 (List.replicate 121 0)) = false := by decide
theorem test_wellFormed_length_with_kind : wellFormed (.frameReject .length (some 1) none) = false := by decide
theorem test_wellFormed_timeout_tag_alone : wellFormed (.frameReject .timeout none (some 1)) = false := by decide
theorem test_wellFormed_parity_untaken : wellFormed (.frameReject .parity none none) = false := by decide
theorem test_wellFormed_expiry_zero : wellFormed (.cueExpiry 0) = false := by decide

/-! ## No word spells a command -/

theorem test_decode_none : decodeTableWord 16 0x1234 = none := rfl
theorem test_fetch_unchanged : State.withFetchWord silent 16 0x1234 = silent := rfl

/-! ## The manual's figures -/

/-- STATUS with TAG 0x2A is C3 00 01 2A D5 (R189). -/
theorem test_frame_bytes : frameBytes 0x01 0x2A [] = [0xC3, 0x00, 0x01, 0x2A, 0xD5] := by decide
/-- The weekday of 2024-01-01 is Monday and of 2000-01-01 Saturday (R35). -/
theorem test_weekday : weekday { firstSecond with year := 2024 } = 1 ∧ weekday firstSecond = 6 := by decide
/-- 2000 and 2096 are leap years, 2001 is not (R34). -/
theorem test_february : monthLength 2000 2 = 29 ∧ monthLength 2096 2 = 29 ∧ monthLength 2001 2 = 28 := by decide
/-- Bell 3 and bell 40 at velocity 6 (R115). -/
theorem test_lead : lead 1920 6 = 135 ∧ lead 6400 6 = 450 ∧ lead 16 8 = 1 ∧ lead 8000 1 = 859 := by decide
/-- Bell 3 and bell 40 at velocity 6, and the ends of the range (R116). -/
theorem test_width : pulseWidth 20 6 = 18 ∧ pulseWidth 60 6 = 53 ∧ pulseWidth 4 1 = 2 ∧ pulseWidth 80 8 = 80 := by decide
/-- The table of window lengths (R166). -/
theorem test_window : windowLength 200 6 = 245 ∧ windowLength 1 8 = 21 ∧ windowLength 1 1 = 22
    ∧ windowLength 180 6 = 223 ∧ windowLength 500 1 = 880 := by decide
/-- Strokes 1, 2, 3 and 5 of bell 3's learning (09, Worked example: learning on bell 3). -/
theorem test_learning :
    referred 2208 6 = 1963 ∧ isOutlier 1963 1920 = false ∧ learnedFlight bell3.config 1920 1963 = 1925
      ∧ referred 2300 6 = 2044 ∧ learnedFlight bell3.config 1925 2044 = 1940
      ∧ referred 3200 6 = 2844 ∧ isOutlier 2844 1940 = true ∧ learnedFlight bell3.config 1940 1991 = 1946 := by decide
/-- Records 0 and 1 of the exact tempo example (06): 145 and 146 ms, remainders 32 and 16. -/
theorem test_tempo :
    let c0 : Cursor := { index := 0, repeats := 2, beat := 437, remainder := 0, point := 50000 }
    let c1 := c0.advance 16 437
    c1.point = 50145 ∧ c1.remainder = 32 ∧ (c1.advance 16 437).point = 50291 ∧ (c1.advance 16 437).remainder = 16 := by
  decide
/-- Record 37 of the chain 319, 320, 321 is at position 5 of block 321 (R21). -/
theorem test_chain : chainAddress [319, 320, 321] 37 = recordAddress 321 5 := by decide
/-- The count rules (R45): noon and midnight strike 12, the full hour 4 quarters. -/
theorem test_strokes :
    strokeCount .hour12 { firstSecond with hour := 12 } = 12 ∧ strokeCount .hour12 { firstSecond with hour := 13 } = 1
      ∧ strokeCount .quarter { firstSecond with minute := 45 } = 3 ∧ strokeCount .quarter firstSecond = 4 := by decide
/-- The end of 2099 wraps to the start of 2000, and a leap February has its 29th (R34, R36). -/
theorem test_next_second :
    nextSecond lastSecond = firstSecond
      ∧ nextSecond { year := 2024, month := 2, day := 28, hour := 23, minute := 59, second := 59 } =
        { year := 2024, month := 2, day := 29, hour := 0, minute := 0, second := 0 } := by decide
/-- Half of an odd refill rate is rounded down, and at least 1 (R153). -/
theorem test_rate : effectiveRate .low 1 = 1 ∧ effectiveRate .low 7 = 3 ∧ effectiveRate .fail 8 = 0 := by decide

/-! ## Single steps -/

/-- A command at the front of the queue runs, and the rest waits on. -/
theorem test_step_takes_front :
    (match step { silent with pending := [.ilockLineChange true, .gapTimeout] } with
      | .next t => t.pending
      | _ => []) = [.gapTimeout] := by decide
/-- In silence a millisecond passes: the STB and the phase rise (R36). -/
theorem test_step_millisecond :
    (match step silent with
      | .next t => (t.stb, t.calendar.phase, t.refillDue)
      | _ => (0, 0, false)) = (1, 1, true) := by decide
/-- STATUS answers 0x81 with TAG and the charge 0, and the transmitter takes the reply (R196, R198). -/
theorem test_status :
    (after (.status 0x2A []) silent).link.reply =
      some { kind := 0x81, tag := 0x2A, payload := [0, 0, 0, 0, 0, 0, 0, 0, 0, 0, 0, 0, 0] } := by decide
/-- A wrong length is BAD_LENGTH, an unknown kind BAD_KIND (R195). -/
theorem test_bad_length : ((after (.timeGet 1 [0]) silent).link.reply.map Frame.payload) = some [0x11] := by decide
theorem test_bad_kind : ((after (.badKindRequest 0x43 1 []) silent).link.reply.map Frame.payload) = some [0x10] := by decide
/-- TIME_SET of 30 February is PARAM with field 2, whatever the hour (R39). -/
theorem test_time_set_param :
    ((after (.timeSet 1 [0x07, 0xE8, 2, 30, 24, 0, 0]) silent).link.reply.map Frame.payload) = some [0x12, 2] := by decide
set_option maxRecDepth 8000 in
/-- SCORE_BEGIN of 17 records takes the blocks 0 and 1 (R21, R23). -/
theorem test_score_begin :
    ((after (.scoreBegin 1 [0, 0, 17, 0, 200, 1, 0, 0]) silent).scores.slots[0]).chain = [0, 1] := by decide
/-- SCORE_END empties a slot whose record is invalid, a NOTE of velocity 0 (R19, R25). -/
theorem test_score_end_bad :
    ((after (.scoreEnd 1 [0]) (stored (oneNote .loading 1) [])).link.reply.map Frame.payload) = some [0x16, 0, 0] := by
  decide
/-- STRIKE on a quiet bell fires at once in target, and sounds a lead of 135 ms later (R115, R148). -/
theorem test_strike : (after (.strike 1 [3, 6]) (served .ready)).queue.map (fun e => (e.target, e.sound, e.cost)) =
    [(0, 135, 18)] := by decide
/-- PLAY of three strokes is ACCEPTED as cue 1 and taken, its origin 1000 ms ahead (R71, R75). -/
theorem test_play :
    ((after (.play 1 [1, 0, 0, 0, 0, 3, 0, 6, 2, 0x58, 2, 3]) silent).engine.current.map fun p => (p.cue.id, p.origin)) =
      some (1, 1000) := by decide
/-- The planner takes the first stroke at the stint's start and counts it (R104, R121). -/
theorem test_planner_take :
    let s := after (.play 1 [1, 0, 0, 0, 0, 3, 0, 6, 2, 0x58, 2, 3]) (served .ready)
    (after .plannerTake s).queue.map (fun e => (e.target, e.sound)) = [(865, 1000)] := by decide
/-- An entry fires: the gate is on for 18 ms and the charge falls by 18 (R135). -/
theorem test_fire :
    let s := after .entryFire { served .ready with queue := [stroke 0 0] }
    (s.channels[3].gate, s.channels[3].pulseEnd, s.reservoir.charge, s.bells[3].fired) = (true, some 18, 82, 1) := by
  decide
/-- A pulse end at 18 gives a recovery end of 218 (R136). -/
theorem test_pulse_end :
    let c : Channel := { state := .firing, pulseEnd := some 18, recoveryEnd := 0, prior := none, gate := true }
    let s := after (.pulseEnd 3) { served .firing with stb := 18, channels := silent.channels.set 3 c }
    (s.channels[3].gate, s.channels[3].state, s.channels[3].recoveryEnd) = (false, .recovering, 218) := by decide
/-- The refill step adds 2, and stops at the capacity (R153). -/
theorem test_refill :
    (after .refillStep { silent with refillDue := true }).reservoir.charge = 2
      ∧ (after .refillStep
          { silent with
            refillDue := true, reservoir := { silent.reservoir with charge := 1199 } }).reservoir.charge = 1200 := by
  decide
/-- Stroke 1 of bell 3's learning, heard 138 ms after its pulse start, leaves a flight of 1925 (09, Worked example). -/
theorem test_impact_learns :
    (after (.impactRecognised 3) (answering3 (16 * 238) bell3 false 239)).bells[3].flight = 1925 := by decide
/-- Stroke 4, unheard at its close, is a miss (R168). -/
theorem test_window_close :
    let s := after (.windowClose 3) (answering3 9999 bell3 false 345)
    (s.bells[3].misses, s.monitor.windows[3]) = (1, none) := by decide
/-- The third miss faults the channel (R172). -/
theorem test_third_miss :
    let s := after (.windowClose 3) (answering3 9999 { bell3 with misses := 2 } false 345)
    (s.channels[3].state, s.bells[3].faultCause) = (.fault, .noImpact) := by decide
/-- A stray is counted and noticed once (R174). -/
theorem test_stray :
    let s := { served .ready with stb := 1, monitor := { silent.monitor with inputs := silent.monitor.inputs.set 3 (.filtering 0) } }
    ((after (.impactRecognised 3) s).bells[3].strays) = 1 := by decide
/-- A test accepted on bell 3: width 20, cost 20, window 420 ms, EARLY limit 480 (R177). -/
theorem test_test_channel :
    ((after (.testChannel 1 [3]) (served .ready)).monitor.test.map fun t =>
      (t.width, t.cost, t.windowLength, t.earlyLimit, t.deadline)) = some (20, 20, 420, 480, 1000) := by decide
/-- The interlock, asserted 50 ms, enters the hold (R88, R89). -/
theorem test_hold :
    let s := after (.ilockLineChange true) silent
    (after .interlockDebounced { s with stb := 50 }).engine.state = .held
      ∧ (after .interlockDebounced { s with stb := 49 }).engine.state = .idle := by decide
/-- Rail FAIL empties the account (R158). -/
theorem test_rail_fail :
    let s := after (.railLineChange .failing true) (served .ready)
    let t := after (.railDebounced .failing) { s with stb := 50 }
    (t.reservoir.rail, t.reservoir.charge, t.engine.state) = (.fail, 0, .held) := by decide
/-- A SYNC, a LEN above 120: rejected LENGTH with TAG 0 and payload 5 and 0 (R190, R194). -/
theorem test_length_reject :
    let s := after (.byteReceived 0xC3 false true) silent
    (after (.byteReceived 121 true true) s).link.reply = some { kind := 0xFF, tag := 0, payload := [5, 0] } := by decide
/-- The 49th byte behind a held frame asserts no more than the 48th: Hold comes at 48 (R188). -/
theorem test_hold_output :
    let waiting (n : Nat) := linked .hunting (some (.good 1 1 [])) (some someReply) (List.replicate n (cleanByte 0))
    (after (.byteReceived 0 false true) (waiting 47)).link.holdo = true
      ∧ (after (.byteReceived 0 false true) (waiting 46)).link.holdo = false := by decide
/-- A second step at the end of 2099 clears the valid flag (R36). -/
theorem test_second_step :
    (after .secondStep
      { silent with
        calendar := { time := lastSecond, valid := true, phase := 999, stepDue := true } }).calendar.valid = false := by
  decide
/-- Behind the calendar that an accepted TIME_SET leaves, the second step that was due does not happen; without it, it does
(R43). -/
theorem test_time_set_meets_step :
    let due : State := { silent with calendar := { time := firstSecond, valid := false, phase := 999, stepDue := true } }
    let set : State := { due with calendar := due.calendar.setTo { firstSecond with second := 5 } }
    let seen (s : State) := (s.calendar.time.second, s.calendar.phase, s.calendar.stepDue)
    seen (after .secondStep set) = (5, 0, false) ∧ seen (after .secondStep due) = (1, 0, false) := by decide
/-- Straps 3 give 57600 baud; a warm start leaves cause WARM, and a second step that fell before it is counted and not
evaluated (R200, R203, R204). -/
theorem test_reset_pin_start :
    let stepping := { silent with calendar := { silent.calendar with phase := 999, stepDue := true } }
    let s := after (.resetPinStart { startTo .completed with straps := 3 }) (after .rstnLow stepping)
    (s.link.rate, s.supply.startCause, s.supply.operating, s.calendar.time.second, s.calendar.stepDue) =
      (57600, .warm, true, 1, false) := by decide
/-- A VBAK lost without main power makes the next start cold, and so does one already flat when main power fails (R202,
R204). -/
theorem test_vbak :
    let cause (s : State) := (after (.powerOnStart (startTo .completed)) s).supply.startCause
    cause (after .vbakLow (after .mainPowerFail silent)) = .cold
      ∧ cause (after .mainPowerFail (after .vbakLow silent)) = .cold ∧ cause (after .mainPowerFail silent) = .warm := by
  decide
/-- A cold start abandoned before the latch is cleared is followed by a cold one, and abandoned behind that by a warm one
(R204). -/
theorem test_abandoned_start :
    let lost : State := { silent with supply := { silent.supply with operating := false, rstnHigh := false, retentionLost := true } }
    let next (reach : StartReach) :=
      (after (.resetPinStart (startTo .completed)) (after .rstnLow (after (.resetPinStart (startTo reach)) lost))).supply.startCause
    next .begun = .cold ∧ next .prepared = .warm := by decide
/-- START is being sent at STB 0, so that a request's reply waits behind it (R206). -/
theorem test_start_sent_first :
    (after (.status 0x2A []) State.reset).link.transmitter =
      .sending { kind := 0xE0, tag := 0, payload := [0] } false 66000 := by decide
/-- The character 0xC3: a start bit, 1 1 0 0 0 0 1 1, even parity 0, a stop bit (R186); TXD a bit and a half into START's
SYNC is at its first data bit. -/
theorem test_character :
    characterBits 0xC3 = [false, true, true, false, false, false, false, true, true, false, true]
      ∧ characterBits 0x01 = [false, true, false, false, false, false, false, false, false, true, true]
      ∧ Transmitter.txd (.sending { kind := 0xE0, tag := 0, payload := [0] } false (66000 - 1500)) = true
      ∧ Transmitter.txd State.reset.link.transmitter = false := by decide
/-- An impact recognised inside a millisecond comes behind what is due at its beginning, and one at its beginning before a
window's close (R164, R168). -/
theorem test_impact_inside :
    let s (edge : Nat) : State := { answering3 edge bell3 false 345 with channels := silent.channels }
    (s (16 * 344)).nextDue = some (.impactRecognised 3) ∧ (s (16 * 344 + 1)).nextDue = some (.windowClose 3) := by decide
/-- A break discards a frame whose gap deadline has passed, with no REJECT (R199). -/
theorem test_break_and_gap :
    let s : State := { linked .length none none [] with stb := 101 }
    (after .lineBreak s).link.reply = none ∧ (after .gapTimeout s).link.reply ≠ none := by decide
/-- FRAME_REJECT PARITY of a frame with KIND 7 and TAG 0x2A. -/
def rejectParity (s : State) : State := after (.frameReject .parity (some 7) (some 0x2A)) s
/-- A frame damaged in LENGTH answers with the bytes that came after (R191, R194); with its gap deadline passed it ends
TIMEOUT first, and the damaged frame is held behind it (R192). -/
theorem test_damaged_in_length :
    (rejectParity (linked .length none none [])).link.transmitter =
        .sending { kind := 0xFF, tag := 0x2A, payload := [2, 7] } true 77000
      ∧ (rejectParity { linked .length none none [] with stb := 101 }).link.reply =
        some { kind := 0xFF, tag := 0, payload := [6, 0] }
      ∧ (rejectParity { linked .length none none [] with stb := 101 }).link.ended =
        some (.rejected .parity (some 7) (some 0x2A)) := by decide
/-- A frame damaged in BODY has the KIND taken and is rejected for its earliest mark; before its gap deadline no TIMEOUT ends
it (R191, R192). -/
theorem test_damaged_in_body :
    let s := linked (.body { cleanByte 1 with overrun := true } [cleanByte 9]) none none []
    (rejectParity s).link.transmitter = .sending { kind := 0xFF, tag := 0x2A, payload := [4, 9] } true 77000
      ∧ (after (.frameReject .timeout none none) s).link = s.link := by decide
/-- An impact on a test's channel whose edge lies before the pulse start is EARLY (R180). -/
theorem test_edge_before_pulse :
    let s := tested (testing3 .listening) 101 500
    let t : State := { s with monitor := { s.monitor with inputs := silent.monitor.inputs.set 3 (.filtering 1599) } }
    ((after (.impactRecognised 3) t).monitor.test.map ChannelTest.result) = some (some .early) := by decide
/-- A byte written to the pool is read back, and a 0 leaves no entry. -/
theorem test_memory :
    Memory.readByte (Memory.writeByte [] 5 7) 5 = 7 ∧ Memory.writeByte (Memory.writeByte [] 5 7) 5 0 = [] := by decide

/-! ## The hypotheses of the statements are met

One theorem a statement: each of its clauses' hypotheses together, at concrete values, boundaries among them. A statement
that is not named here has no hypothesis. -/

theorem listening_silent : Listening silent := ⟨rfl, by decide⟩

/-- A silent part with some of its blocks replaced is listening still. -/
theorem listening_of (s : State) (h : s.supply.operating = true) (k : s.link = silent.link) : Listening s :=
  ⟨h, by rw [k]; decide⟩

theorem witness_QuietMillisecondPasses :
    (silent.pending = [] ∧ silent.supply.operating = true ∧ silent.mustChoose = false ∧ silent.nextDue = none)
      ∧ (after .rstnLow silent).supply.operating = false ∧ (after .rstnLow silent).supply.starting = none
      ∧ (after .rstnLow silent).calendar.stepDue = false
      ∧ ({ silent with refillDue := true } : State).mustChoose = false
      ∧ ({ silent with refillDue := true } : State).nextDue = some .refillStep
      ∧ silent.link.transmitter = .idle
      ∧ ({ silent with notices := { waiting := [.strayImpact 3], overflow := false } } : State).notices.waiting ≠ [] := by
  decide

/-- A part that lost its retained state, main power in range or not, RSTN high or low. -/
def lost (main rstn : Bool) : State :=
  { silent with
    supply := { silent.supply with operating := false, retentionLost := true, mainInRange := main, rstnHigh := rstn } }

theorem linesClear_lost (main rstn : Bool) : LinesClear (lost main rstn) := by
  refine ⟨rfl, rfl, rfl, fun b => ?_, rfl, rfl, rfl⟩
  revert b
  show ∀ b : Bell, silent.monitor.inputs[b] = .clear
  decide

theorem witness_ColdStartLeavesReset :
    ((lost true false).supply.operating = false ∧ (lost true false).supply.retentionLost = true
      ∧ LinesClear (lost true false) ∧ (lost true false).supply.mainInRange = true
      ∧ (lost true false).supply.rstnHigh = false)
    ∧ ((lost false true).supply.operating = false ∧ (lost false true).supply.retentionLost = true
      ∧ LinesClear (lost false true) ∧ (lost false true).supply.mainInRange = false
      ∧ (lost false true).supply.rstnHigh = true)
    ∧ (lost true false).pending = [] ∧ (lost true false).calendar.stepDue = false :=
  ⟨⟨rfl, rfl, linesClear_lost _ _, rfl, rfl⟩, ⟨rfl, rfl, linesClear_lost _ _, rfl, rfl⟩, rfl, rfl⟩

theorem witness_WarmStartsKeepRetained :
    let pin := after .rstnLow silent
    let power := after .mainPowerFail silent
    let sent := after (.restart 1 []) silent
    (pin.supply.operating = false ∧ pin.supply.retentionLost = false ∧ pin.supply.mainInRange = true
      ∧ pin.supply.rstnHigh = false)
    ∧ (power.supply.operating = false ∧ power.supply.retentionLost = false ∧ power.supply.mainInRange = false
      ∧ power.supply.rstnHigh = true)
    ∧ sent.supply.operating = true ∧ sent.supply.mainInRange = true ∧ sent.supply.rstnHigh = true
      ∧ sent.link.restartPending = true
      ∧ sent.link.transmitter = .sending { kind := 0x82, tag := 1, payload := [0] } true 66000 := by
  decide

theorem witness_StopsTurnOutputsOff :
    (lost true false).supply.operating = false ∧ (lost true false).supply.mainInRange = true
      ∧ (lost true false).supply.rstnHigh = false := by decide

/-- A schedule entry that strikes bell 3 each full minute. -/
def everyMinute (latched enabled : Bool) (action : ActionSpec) : SchedEntry :=
  { enabled := enabled, latched := latched, stamp := none
    pattern :=
      { second := 0, minute := none, hour := none, weekdays := 0x7F, day := .any, months := 0x0FFF }
    priority := 2, mode := .interruptible, maxWait := 0, action := action }

/-- The schedule with that entry as entry 7. -/
def scheduled (e : SchedEntry) (waiting : List Cue) : State :=
  { silent with schedule := silent.schedule.set 7 (some e), cues := { waiting := waiting, nextId := 1 } }

/-- Three strokes of bell 3 as an entry or a PLAY gives them. -/
def threeStrokes : ActionSpec := .count 3 6 600 (.fixed 3)

theorem witness_ReportsCarryFieldsAsTheyStand :
    let s := scheduled (everyMinute false true threeStrokes) []
    Listening s ∧ s.schedule[6] = none ∧ s.schedule[7] = some (everyMinute false true threeStrokes) :=
  ⟨listening_of _ rfl rfl, by decide, by decide⟩

theorem witness_CueAndBellReads :
    let p := performing (chime 1 3 .firm 0)
    let s := playing .playing p [chime 2 3 .firm 0, chime 4 5 .firm 0] 0
    let t := holding (chime 5 3 .firm 0) 0
    (Listening s ∧ s.engine.current = some p ∧ (0 : Byte).toNat = 0 ∧ (1 : Byte).toNat = p.cue.id)
    ∧ (Listening t ∧ t.engine.current = none ∧ t.engine.held = some { cue := chime 5 3 .firm 0, context := firstStroke }
      ∧ (5 : Byte).toNat = (chime 5 3 .firm 0).id)
    ∧ ((4 : Byte).toNat ≠ p.cue.id ∧ s.engine.held = none
      ∧ s.cues.waiting = [chime 2 3 .firm 0] ++ chime 4 5 .firm 0 :: []
      ∧ (∀ x ∈ [chime 2 3 .firm 0], x.id ≠ (4 : Byte).toNat))
    ∧ ∀ x ∈ s.cues.waiting, x.id ≠ (255 : Byte).toNat :=
  ⟨⟨listening_of _ rfl rfl, by decide, by decide, by decide⟩, ⟨listening_of _ rfl rfl, by decide, by decide, by decide⟩,
    by decide, by decide⟩

theorem witness_RefusedRequestsChangeNothing :
    Listening silent ∧ (answer 0x55 [3, 9] silent).status = .param ∧ (answer 0x21 [0, 0, 0, 1, 2, 3, 4] silent).status = .notFound
      ∧ ReqKind.ofCode 0x43 = none ∧ lengthRight .scoreData 3 = false ∧ lengthRight .scoreData 103 = false
      ∧ lengthRight .status 1 = false :=
  ⟨listening_silent, by decide⟩

/-- Failing first at a field, decided. -/
theorem failsFirstAt_of {checks : List Bool} {i : Nat} (h : checks[i]? = some false)
    (k : ∀ j : Fin i, checks[j.val]? = some true) : FailsFirstAt checks i :=
  ⟨h, fun j hj => k ⟨j, hj⟩⟩

/-- A configuration for BELL_WRITE of bell 3. -/
def written3 (width : Byte) (recovery floor ceiling seed : Byte) : List Byte :=
  [3, 1, width, 0, recovery, 1, 0, floor, 0, ceiling, 0, seed, 1]

theorem witness_ParamNamesFirstBadField :
    Listening silent
    ∧ FailsFirstAt (timeChecks (timeFields [0x07, 0xE8, 13, 32, 0, 0, 0])) 1
    ∧ FailsFirstAt (timeChecks (timeFields [0x08, 0x34, 1, 1, 0, 0, 0])) 0
    ∧ FailsFirstAt (timeChecks (timeFields [0x08, 0x33, 12, 31, 23, 59, 60])) 5
    ∧ FailsFirstAt (headerChecks [31, 16, 1, 0, 200, 1, 0, 0]) 1
    ∧ FailsFirstAt (headerChecks [31, 16, 0, 0, 200, 16, 16, 0]) 4
    ∧ FailsFirstAt (schedChecks [95, 1, 59, 59, 23, 127, 31, 15, 255, 0, 8, 0, 0, 0, 0, 0, 0, 0, 0, 0, 0]) 9
    ∧ FailsFirstAt (actionChecks (actionFields [1, 7, 2, 14, 16, 63, 0, 8, 23, 112, 2, 25] 0)) 8
    ∧ FailsFirstAt (settingsChecks [30, 250, 15, 161, 8]) 2
    ∧ FailsFirstAt (configChecks (written3 81 200 60 200 120)) 2
    ∧ ((configChecks (written3 20 200 200 200 120)).all id = true
      ∧ (configFields (written3 20 200 200 200 120)).ceiling ≤ (configFields (written3 20 200 200 200 120)).floor)
    ∧ ((configFields (written3 20 200 60 200 59)).floor < (configFields (written3 20 200 60 200 59)).ceiling
      ∧ (configFields (written3 20 200 60 200 59)).seed < (configFields (written3 20 200 60 200 59)).floor)
    ∧ ((configFields (written3 20 20 60 200 60)).seed ≤ (configFields (written3 20 20 60 200 60)).ceiling
      ∧ (configFields (written3 20 20 60 200 60)).recovery ≤ (configFields (written3 20 20 60 200 60)).driveWidth)
    ∧ (31 < (32 : Byte).toNat ∧ 95 < (96 : Byte).toNat ∧ 63 < (64 : Byte).toNat)
    ∧ FailsFirstAt [decide ((95 : Byte).toNat ≤ 95), decide ((2 : Byte).toNat ≤ 1)] 1
    ∧ FailsFirstAt [decide ((64 : Byte).toNat ≤ 63), decide ((2 : Byte).toNat ≤ 1)] 0
    ∧ FailsFirstAt [decide ((63 : Byte).toNat ≤ 63), decide (1 ≤ (9 : Byte).toNat ∧ (9 : Byte).toNat ≤ 8)] 1 :=
  ⟨listening_silent, failsFirstAt_of (by decide) (by decide), failsFirstAt_of (by decide) (by decide),
    failsFirstAt_of (by decide) (by decide), failsFirstAt_of (by decide) (by decide),
    failsFirstAt_of (by decide) (by decide), failsFirstAt_of (by decide) (by decide),
    failsFirstAt_of (by decide) (by decide), failsFirstAt_of (by decide) (by decide),
    failsFirstAt_of (by decide) (by decide), by decide, by decide, by decide, by decide,
    failsFirstAt_of (by decide) (by decide), failsFirstAt_of (by decide) (by decide),
    failsFirstAt_of (by decide) (by decide)⟩

/-- The calendar valid at a time. -/
def clocked (t : CalTime) (valid : Bool) : State :=
  { silent with calendar := { time := t, valid := valid, phase := 999, stepDue := true } }

/-- Noon of 2024-06-01, and seconds around it. -/
def noon (minute second : Nat) : CalTime :=
  { year := 2024, month := 6, day := 1, hour := 12, minute := minute, second := second }

theorem witness_TimeSetEvaluatesByDelta :
    Listening (clocked (noon 10 0) true) ∧ Listening (clocked (noon 10 0) false)
    ∧ (noon 10 0).real = true ∧ (clocked (noon 10 0) false).calendar.valid = false
    ∧ secondsBetween (noon 10 0) (noon 10 1) = 1 ∧ secondsBetween (noon 10 0) (noon 12 0) = 120
    ∧ secondsBetween (noon 10 0) (noon 10 0) = 0 ∧ secondsBetween (noon 10 0) (noon 9 59) = -1
    ∧ secondsBetween (noon 10 0) (noon 12 1) = 121 :=
  ⟨listening_of _ rfl rfl, listening_of _ rfl rfl, by decide, by decide, by decide, by decide, by decide, by decide,
    by decide⟩

theorem witness_SecondStepAdvancesAndEvaluates :
    Listening (clocked (noon 10 0) true) ∧ (noon 10 0).real = true
    ∧ (clocked (noon 10 0) true).calendar.stepDue = true ∧ silent.calendar.stepDue = false
    ∧ silent.supply.operating = true ∧ (after .rstnLow silent).supply.operating = false
    ∧ (after .rstnLow silent).calendar.stepDue = false ∧ (after .rstnLow (clocked lastSecond true)).calendar.stepDue = true
    ∧ (clocked (noon 10 0) true).supply.operating = true ∧ (clocked (noon 10 0) true).calendar.valid = true
    ∧ (clocked (noon 10 0) true).calendar.time ≠ lastSecond ∧ (clocked (noon 10 0) false).calendar.valid = false
    ∧ (clocked lastSecond true).calendar.time = lastSecond
    ∧ (after .rstnLow (clocked lastSecond true)).supply.operating = false :=
  ⟨listening_of _ rfl rfl, by decide⟩

theorem witness_NextSecondIsOneSecondLater :
    (noon 59 59).real = true ∧ noon 59 59 ≠ lastSecond ∧ lastSecond.real = true
    ∧ (let t : CalTime := { year := 2024, month := 2, day := 29, hour := 23, minute := 59, second := 59 }
      t.real = true ∧ dayNumber (nextSecond t) = dayNumber t + 1) := by
  decide

theorem witness_MatchingEntryHasOneOutcome :
    let minute := minuteOf (noon 10 0)
    let waiting := List.replicate 16 (chime 2 3 .firm 0)
    let e (latched enabled : Bool) := everyMinute latched enabled threeStrokes
    (scheduled (e false true) []).schedule[(7 : EntryNo)] = some (e false true)
    ∧ (e false false).enabled = false ∧ (e false true).pattern.matches (noon 10 1) = false
    ∧ ({ e false true with stamp := some minute } : SchedEntry).stamp = some minute
    ∧ ((e true true).enabled = true ∧ (e true true).pattern.matches (noon 10 0) = true ∧ (e true true).stamp ≠ some minute
      ∧ (e true true).latched = true ∧ (e false true).latched = false)
    ∧ ((everyMinute false true (.score 0 0 0)).action = .score 0 0 0 ∧ silent.scores.slots[(0 : SlotNo)].state ≠ .ready)
    ∧ ((scheduled (e false true) []).cues.waiting.length < 16
      ∧ waiting = List.replicate 15 (chime 2 3 .firm 0) ++ [chime 2 3 .firm 0] ∧ 16 ≤ waiting.length
      ∧ (e false true).priority < (chime 2 3 .firm 0).priority ∧ (chime 2 2 .firm 0).priority ≤ (e false true).priority) := by
  decide

/-- A slot whose chain is a list of blocks. -/
def chained (blocks : List Nat) : Slot := { emptySlot with chain := blocks }

theorem chained_chain (blocks : List Nat) : (chained blocks).chain = blocks := rfl

/-- The store with a slot of those blocks as slot 1. -/
def chainedPool (blocks : List Nat) : State :=
  { silent with scores := { silent.scores with slots := silent.scores.slots.set 1 (chained blocks) } }

/-- A chain of every block leaves no free block. -/
theorem chainedPool_freeCount (blocks : List Nat) (all : ∀ k, k < 512 → k ∈ blocks) :
    (chainedPool blocks).freeCount = 0 := by
  have used : ∀ k, k < 512 → k ∈ usedBlocks (chainedPool blocks).scores.slots.toList := by
    intro k hk
    refine List.mem_flatMap.2 ⟨chained blocks, ?_, by rw [chained_chain]; exact all k hk⟩
    show _ ∈ ((Vector.replicate 32 emptySlot).set 1 (chained blocks)).toList
    simp [Vector.toList]
  have none : freeBlocks (chainedPool blocks).scores.slots.toList = [] := by
    refine List.filter_eq_nil_iff.2 fun k hk => ?_
    simp [used k (List.mem_range.1 hk)]
  simp only [State.freeCount, none, List.length_nil]

/-- A store with every block in the chain of slot 1. -/
def fullPool : State := chainedPool (List.range 512)

theorem fullPool_freeCount : fullPool.freeCount = 0 :=
  chainedPool_freeCount _ fun _ => List.mem_range.2

theorem chainedPool_slot (blocks : List Nat) :
    (chainedPool blocks).scores.slots[(1 : SlotNo)] = chained blocks := by
  show ((Vector.replicate 32 emptySlot).set 1 (chained blocks))[(1 : SlotNo)] = _
  simp [Fin.getElem_fin]

theorem chainedPool_other (blocks : List Nat) : (chainedPool blocks).scores.slots[(0 : SlotNo)] = emptySlot := by
  show ((Vector.replicate 32 emptySlot).set 1 (chained blocks))[(0 : SlotNo)] = _
  simp [Fin.getElem_fin]

theorem witness_ScoreBeginAndErase :
    let h : Header := { recordCount := 4096, defaultBeat := 2000, repeats := 16, repeatGap := 4095 }
    Listening silent ∧ Listening fullPool
    ∧ (1 ≤ h.recordCount ∧ h.recordCount ≤ 4096 ∧ 200 ≤ h.defaultBeat ∧ h.defaultBeat ≤ 2000 ∧ 1 ≤ h.repeats
      ∧ h.repeats ≤ 16 ∧ h.repeatGap ≤ 4095)
    ∧ (fullPool.scores.slots[(0 : SlotNo)].refCount = 0
      ∧ fullPool.freeCount + fullPool.scores.slots[(0 : SlotNo)].chain.length < (h.recordCount + 15) / 16)
    ∧ (fullPool.scores.slots[(1 : SlotNo)].refCount = 0
      ∧ (h.recordCount + 15) / 16 ≤ fullPool.freeCount + fullPool.scores.slots[(1 : SlotNo)].chain.length)
    ∧ 0 < (stored { oneNote .ready 1 with refCount := 1 } []).scores.slots[(0 : SlotNo)].refCount := by
  refine ⟨listening_silent, listening_of _ rfl rfl, by decide, ?_, ?_, by decide⟩
  · rw [fullPool_freeCount, fullPool, chainedPool_other]; decide
  · rw [fullPool_freeCount, fullPool, chainedPool_slot, chained_chain, List.length_range]
    exact ⟨rfl, by decide⟩

/-- A store of one slot that is as its state says is sound. -/
theorem storeSound_stored (x : Slot) (mem : List Host.Cell) (h : SlotFits x) (d : x.chain.Nodup)
    (b : ∀ k ∈ x.chain, k < 512) : StoreSound (stored x mem) := by
  have used : usedBlocks (stored x mem).scores.slots.toList = x.chain := by
    show usedBlocks ((Vector.replicate 32 emptySlot).set 0 x).toList = x.chain
    have : ((Vector.replicate 32 emptySlot).set 0 x).toList = x :: List.replicate 31 emptySlot := rfl
    rw [this, usedBlocks, List.flatMap_cons]
    have : (List.replicate 31 emptySlot).flatMap Slot.chain = [] := rfl
    rw [this, List.append_nil]
  refine ⟨by rw [used]; exact d, by rw [used]; exact b, fun i => ?_⟩
  show SlotFits ((Vector.replicate 32 emptySlot).set 0 x)[i]
  by_cases hi : i.val = 0
  · have : ((Vector.replicate 32 emptySlot).set 0 x)[i] = x := by
      simp [Fin.getElem_fin, hi]
    rw [this]; exact h
  · have : ((Vector.replicate 32 emptySlot).set 0 x)[i] = emptySlot := by
      simp [Fin.getElem_fin, Vector.getElem_set_ne, Ne.symm hi]
    rw [this]
    exact ⟨fun _ => rfl, rfl, fun h => absurd rfl h, fun h => (nomatch h), fun h => absurd h (by decide)⟩

/-- A slot of 17 records, 15 of them loaded. -/
def loadingSlot : Slot :=
  { state := .loading, header := some { recordCount := 17, defaultBeat := 437, repeats := 1, repeatGap := 0 }
    chain := [0, 1], nextOffset := 15, refCount := 0 }

theorem witness_ScoreDataStoresRecords :
    let s := stored loadingSlot []
    let r : NoteRecord := { b0 := 0, b1 := 16, b2 := 5, b3 := 3 }
    let x := s.scores.slots[(0 : SlotNo)]
    Listening s ∧ StoreSound s ∧ Memory.wf s.scores.mem = true ∧ x.state = .loading ∧ 1 ≤ [r, r].length ∧ [r, r].length ≤ 24
      ∧ x.nextOffset + [r, r].length ≤ x.recordCount ∧ x.recordCount ≤ 4096 :=
  ⟨listening_of _ rfl rfl,
    storeSound_stored _ _
      ⟨fun h => (nomatch h), by decide, fun _ => by decide, fun h => (nomatch h), fun h => absurd h (by decide)⟩ (by decide)
      (by decide),
    by decide, by decide, by decide, by decide, by decide, by decide⟩

theorem witness_ScoreEndSettlesSlot :
    let valid := [(2, 5), (3, 3)]
    let good := stored (oneNote .loading 1) valid
    let bad := stored (oneNote .loading 1) []
    Listening good ∧ Listening bad
    ∧ (good.scores.slots[(0 : SlotNo)].nextOffset = good.scores.slots[(0 : SlotNo)].recordCount
      ∧ (recordAt good.scores.mem good.scores.slots[(0 : SlotNo)].chain 0).valid = true
      ∧ (recordAt bad.scores.mem bad.scores.slots[(0 : SlotNo)].chain 0).valid = false)
    ∧ ((stored (oneNote .loading 0) []).scores.slots[(0 : SlotNo)].nextOffset
        < (stored (oneNote .loading 0) []).scores.slots[(0 : SlotNo)].recordCount)
    ∧ silent.scores.slots[(0 : SlotNo)].state ≠ .loading
    ∧ (let x := (stored loadingSlot []).scores.slots[(0 : SlotNo)]
      x.state = .loading ∧ 16 ≠ x.nextOffset ∧ 15 = x.nextOffset ∧ x.recordCount < 15 + (List.replicate 3 ()).length
        ∧ 31 < (32 : Byte).toNat) :=
  ⟨listening_of _ rfl rfl, listening_of _ rfl rfl, by decide, by decide, by decide, by decide⟩

/-- SCHED_WRITE of entry 7: three strokes of bell 3 each full minute. -/
def write7 : List Byte := [7, 1, 0, 255, 255, 127, 255, 15, 255, 1, 2, 1, 0, 0, 3, 0, 6, 2, 88, 2, 3]

theorem witness_ScheduleRequestsWriteEntries :
    let s (latched : Bool) := scheduled (everyMinute latched true threeStrokes) []
    Listening (s true) ∧ Listening (s false) ∧ (write7.length = 21 ∧ (schedChecks write7).all id = true ∧ u8 write7 0 = 7)
    ∧ ((s false).schedule[(7 : EntryNo)].map SchedEntry.latched) = some false
    ∧ ((s true).schedule[(7 : EntryNo)].map SchedEntry.latched) = some true ∧ (s true).schedule[(95 : EntryNo)] = none :=
  ⟨listening_of _ rfl rfl, listening_of _ rfl rfl, by decide, by decide, by decide, by decide⟩

theorem witness_StoredFieldsReadBackAsWritten :
    (write7.length = 21 ∧ (schedChecks write7).all id = true)
    ∧ (written3 20 200 60 200 120).length = 13 ∧ (configChecks (written3 20 200 60 200 120)).all id = true := by decide

/-- PLAY of three strokes of bell 3 with priority 3. -/
def play3 : List Byte := [1, 3, 0, 0, 0, 3, 0, 6, 2, 88, 2, 3]

/-- PLAY of the hour on bell 3. -/
def playHour : List Byte := [1, 3, 0, 0, 0, 3, 0, 6, 2, 88, 0, 0]

/-- PLAY of the score in slot 0. -/
def playScore : List Byte := [0, 3, 1, 0, 0, 0, 0, 0, 0, 0, 0, 0]

theorem playPasses_strokes (s : State) : PlayPasses s play3 :=
  ⟨rfl, by decide, fun _ _ _ h => (nomatch h), fun h => (nomatch h)⟩

theorem witness_PlayIsTakenByIdleEngine :
    Listening silent ∧ PlayPasses silent play3 ∧ silent.engine.state = .idle ∧ silent.engine.current = none
    ∧ silent.engine.held = none ∧ silent.cues.waiting = [] ∧ 1 ≤ silent.cues.nextId ∧ silent.cues.nextId ≤ 255
    ∧ ({ silent with cues := { waiting := [], nextId := 255 } } : State).cues.nextId = 255 :=
  ⟨listening_silent, playPasses_strokes _, by decide, by decide, by decide, by decide, by decide, by decide, by decide⟩

theorem witness_PlayWaitsOrIsRefused :
    let s := playing .playing (performing (chime 1 3 .interruptible 0)) [] 0
    let full := playing .starting (performing (chime 1 7 .firm 0)) (List.replicate 16 (chime 2 3 .firm 0)) 0
    (Listening s ∧ PlayPasses s play3 ∧ s.engine.state = .playing
      ∧ (∃ q, s.engine.current = some q ∧ (q.cue.priority ≤ u8 play3 1 ∨ q.cue.mode = .firm)) ∧ s.cues.waiting.length < 16)
    ∧ (Listening full ∧ PlayPasses full play3
      ∧ full.cues.waiting = List.replicate 15 (chime 2 3 .firm 0) ++ [chime 2 3 .firm 0] ∧ 16 ≤ full.cues.waiting.length
      ∧ (chime 2 3 .firm 0).priority ≤ u8 play3 1 ∧ u8 play3 1 < (chime 2 4 .firm 0).priority)
    ∧ (playScore.length = 12 ∧ (actionChecks (actionFields playScore 0)).all id = true
      ∧ (actionFields playScore 0).action = .score 0 0 0 ∧ silent.scores.slots[(0 : SlotNo)].state ≠ .ready)
    ∧ (playHour.length = 12 ∧ (actionChecks (actionFields playHour 0)).all id = true
      ∧ (actionFields playHour 0).action.readsClock = true ∧ silent.calendar.valid = false) :=
  ⟨⟨listening_of _ rfl rfl, playPasses_strokes _, by decide, ⟨_, rfl, .inl (by decide)⟩, by decide⟩,
    ⟨listening_of _ rfl rfl, playPasses_strokes _, by decide, by decide, by decide⟩, by decide, by decide⟩

/-- The shadows of R120, by their four cases: an entry left, a firing channel, a recovering one, another. -/
theorem witness_ShadowsAfter :
    let mine (earliest : Stb) : StrikeEntry := { stroke 5 earliest with origin := .performance 1 0 }
    let s (c : ChannelState) (left : List StrikeEntry) : State := { served c with queue := mine 5 :: left }
    mine 5 ∈ (s .ready []).queue ∧ (mine 5).bell = 3 ∧ (mine 5).ofCue 1 = true
    ∧ ((s .ready [stroke 7 7]).queue = [mine 5] ++ stroke 7 7 :: [] ∧ (stroke 7 7).ofCue 1 = false)
    ∧ (∀ e ∈ (s .firing []).queue, e.bell = 3 → e.ofCue 1 = true)
    ∧ (s .firing []).channels[(3 : Bell)].state = .firing ∧ (s .recovering []).channels[(3 : Bell)].state = .recovering
    ∧ (s .ready []).channels[(3 : Bell)].state = .ready := by
  decide

theorem witness_StopEndsCue :
    let p := performing (chime 1 3 .firm 0)
    let s := { playing .playing p [] 0 with queue := [{ stroke 5 5 with origin := .performance 1 0 }] }
    let h := holding (chime 5 3 .firm 0) 0
    let w := playing .playing p [chime 2 3 .firm 0, chime 4 5 .firm 0] 0
    (Listening s ∧ s.engine.current = some p ∧ (0 : Byte).toNat = 0 ∧ (1 : Byte).toNat = p.cue.id ∧ s.cues.waiting = []
      ∧ p.cue.counters.dropped ≤ 65535)
    ∧ (Listening h ∧ h.engine.current = none
      ∧ (h.engine.held.map fun x => x.cue.id) = some (5 : Byte).toNat)
    ∧ (Listening w ∧ (4 : Byte).toNat ≠ 0 ∧ (4 : Byte).toNat ≠ p.cue.id ∧ w.engine.held = none
      ∧ w.cues.waiting = [chime 2 3 .firm 0] ++ chime 4 5 .firm 0 :: []
      ∧ (∀ x ∈ [chime 2 3 .firm 0] ++ [], x.id ≠ (4 : Byte).toNat)
      ∧ w.engine.current = some p ∧ w.cues.waiting = chime 2 3 .firm 0 :: [chime 4 5 .firm 0])
    ∧ ∀ x ∈ w.cues.waiting, x.id ≠ (255 : Byte).toNat :=
  ⟨⟨listening_of _ rfl rfl, by decide, by decide, by decide, by decide, by decide⟩,
    ⟨listening_of _ rfl rfl, by decide, by decide⟩, ⟨listening_of _ rfl rfl, by decide⟩, by decide⟩

theorem witness_WaitsRunOut :
    let s (now : Stb) := playing .playing (performing (chime 1 3 .firm 0)) [chime 2 3 .firm 4, chime 3 3 .firm 0] now
    (s 4000).supply.operating = true
    ∧ ((s 4000).cues.waiting = [] ++ chime 2 3 .firm 4 :: [chime 3 3 .firm 0] ∧ (chime 2 3 .firm 4).id = (2 : Byte).toNat
      ∧ (∀ x ∈ [] ++ [chime 3 3 .firm 0], x.id ≠ (2 : Byte).toNat) ∧ 0 + 4 * 1000 ≤ (s 4000).stb
      ∧ (s 3999).stb < 0 + 4 * 1000)
    ∧ ((holding (chime 5 3 .firm 1) 1000).engine.state = .held
      ∧ (holding (chime 5 3 .firm 1) 1000).engine.holdStart + 1 * 1000 ≤ (holding (chime 5 3 .firm 1) 1000).stb
      ∧ (holding (chime 5 3 .firm 1) 999).stb < (holding (chime 5 3 .firm 1) 999).engine.holdStart + 1 * 1000
      ∧ (chime 5 3 .firm 0).maxWait = 0) := by
  decide

theorem witness_OriginAndCompletion :
    let p := performing (chime 1 3 .firm 0)
    let s (e : EngineState) (w : List Cue) := playing e p w 1000
    (s .starting []).supply.operating = true ∧ (s .starting []).engine.current = some p ∧ p.origin ≤ (s .starting []).stb
    ∧ (s .draining []).engine.state = .draining ∧ (∀ e ∈ (s .draining []).queue, e.ofCue p.cue.id = false)
    ∧ (s .draining []).cues.waiting = []
    ∧ (s .draining [chime 2 3 .firm 0]).cues.waiting = chime 2 3 .firm 0 :: [] := by
  decide

/-- A context of the log. -/
def logged (phrase : Nat) (sound : Stb) : LogContext :=
  { phrase := phrase, index := 4 * phrase, repeats := 1, beat := 437, sound := sound }

/-- A performance yields to a better head, with or without a yield point. -/
def yielding (mode : Mode) (point : Option LogContext) : Performance :=
  { performing (chime 1 3 mode 0) with yield := some { start := 0, deadline := 8000, point := point } }

theorem witness_SuspensionsGiveWayToHead :
    let s (p : Performance) : State :=
      { playing .yielding p [chime 2 1 .firm 0] 8000 with
        planner := { silent.planner with state := .planning, log := [logged 0 1000, logged 1 8000, logged 2 8001] } }
    let p := yielding .interruptible (some (logged 2 8001))
    let q := yielding .abortable none
    (s p).supply.operating = true ∧ (s p).engine.state = .yielding ∧ (s p).engine.current = some p
    ∧ (s p).cues.waiting = chime 2 1 .firm 0 :: []
    ∧ ({ s p with cues := { waiting := [], nextId := 9 } } : State).cues.waiting = []
    ∧ p.cue.mode = .interruptible ∧ q.cue.mode = .abortable
    ∧ (p.yield.map Yield.point = some (some (logged 2 8001)) ∧ ∀ e ∈ (s p).queue, e.ofCue p.cue.id = false)
    ∧ (q.yield.map Yield.point = some none ∧ (q.yield.map fun y => decide (y.deadline ≤ (s q).stb)) = some true
      ∧ (s q).planner.log = [logged 0 1000] ++ logged 1 8000 :: [logged 2 8001] ∧ (logged 1 8000).sound ≤ (s q).stb
      ∧ ∀ x ∈ [logged 2 8001], (s q).stb < x.sound) := by
  decide

theorem witness_PreemptionYieldsOrDisplaces :
    let p := performing (chime 1 3 .interruptible 0)
    let s (log : List LogContext) : State :=
      { playing .playing p [chime 2 2 .firm 0] 1000 with
        planner := { silent.planner with state := .planning, log := log } }
    (s []).engine.current = some p ∧ 2 < p.cue.priority ∧ p.cue.mode ≠ .firm ∧ (s []).engine.state = .playing
    ∧ (∀ c ∈ (s [logged 0 1000]).planner.log, c.sound ≤ (s [logged 0 1000]).stb)
    ∧ ((s [logged 0 1000, logged 1 1001]).planner.log = [logged 0 1000] ++ logged 1 1001 :: []
      ∧ (∀ c ∈ [logged 0 1000], c.sound ≤ 1000) ∧ 1000 < (logged 1 1001).sound ∧ (s []).planner.state ≠ .idle)
    ∧ (playing .starting p [chime 2 2 .firm 0] 500).cues.waiting = chime 2 2 .firm 0 :: [] := by
  decide

/-- A PLAY and a schedule fire that preempt: a better cue to a playing performance, with room and by an eviction. -/
theorem witness_PreemptionYieldsOrDisplaces_commands :
    let p := performing (chime 1 5 .interruptible 0)
    let full := playing .starting p (List.replicate 16 (chime 2 4 .firm 0)) 500
    let e := everyMinute false true threeStrokes
    let s : State :=
      { playing .playing p [] 500 with
        schedule := (scheduled e []).schedule
        calendar := { time := noon 9 59, valid := true, phase := 999, stepDue := true } }
    (Listening (playing .playing p [] 500) ∧ PlayPasses (playing .playing p [] 500) play3
      ∧ (playing .playing p [] 500).engine.current = some p ∧ u8 play3 1 < p.cue.priority ∧ p.cue.mode ≠ .firm)
    ∧ (Listening full ∧ PlayPasses full play3 ∧ full.engine.state = .starting
      ∧ full.cues.waiting = List.replicate 15 (chime 2 4 .firm 0) ++ [chime 2 4 .firm 0] ∧ 16 ≤ full.cues.waiting.length
      ∧ u8 play3 1 < (chime 2 4 .firm 0).priority)
    ∧ (s.supply.operating = true ∧ s.calendar.stepDue = true ∧ s.calendar.time ≠ lastSecond ∧ e.priority < p.cue.priority
      ∧ s.cues.waiting.length < 16 ∧ s.schedule[(7 : EntryNo)] = some e ∧ e.enabled = true
      ∧ e.pattern.matches (nextSecond s.calendar.time) = true ∧ e.stamp = none ∧ e.latched = false ∧ e.action = threeStrokes)
    ∧ ∀ j : EntryNo, j ≠ 7 → s.schedule[j] = none :=
  ⟨⟨listening_of _ rfl rfl, playPasses_strokes _, by decide⟩, ⟨listening_of _ rfl rfl, playPasses_strokes _, by decide⟩,
    by decide, by decide⟩

/-- With no test, an empty queue and every channel at rest, agreement is a matter of the engine and the planner. -/
theorem holdSafe_of (s : State) (c : s.channels = silent.channels) (q : s.queue = []) (t : s.monitor.test = none)
    (h1 : s.engine.current.isSome = decide (s.engine.state ≠ .idle ∧ s.engine.state ≠ .held))
    (h2 : s.engine.held.isSome = true → s.engine.state = .held)
    (h3 : s.engine.current = none → s.planner.state = .idle)
    (h4 : s.engine.sourcePresent = true → s.engine.state = .held)
    (h5 : s.engine.settle.isSome = true → s.engine.sourcePresent = false) : HoldSafe s := by
  have off : ∀ b : Bell, s.channels[b] = restChannel .absent := by
    intro b; rw [c]; exact Vector.getElem_replicate ..
  refine ⟨h1, h2, h3, h4, h5, ?_, ?_, ?_, ?_, ?_⟩
  · intro x hx; rw [t] at hx; cases hx
  · intro b hb; rw [off b] at hb; cases hb
  · intro b hb; rw [off b] at hb; cases hb
  · intro _; exact ⟨q, fun b => by rw [off b]; decide⟩
  · intro _ b; rw [off b]; rfl

/-- A line that has held a new level for 50 ms at STB 50. -/
def rising : Debouncer := { line := true, level := false, since := some 0 }

/-- A line back at clear for 50 ms at STB 50. -/
def falling : Debouncer := { line := false, level := true, since := some 0 }

theorem witness_HoldSourceAppears :
    let s : State := { silent with stb := 50, engine := { silent.engine with ilock := rising } }
    let h : State :=
      { s with engine := { s.engine with state := .held, fail := true }
               reservoir := { s.reservoir with rail := .fail } }
    let r : State := { silent with stb := 50, reservoir := { silent.reservoir with failing := rising } }
    (HoldSafe s ∧ s.supply.operating = true ∧ 0 + 50 ≤ s.stb ∧ s.engine.ilock.line = true
      ∧ s.engine.ilock.since = some 0 ∧ s.engine.state ≠ .held)
    ∧ (HoldSafe h ∧ h.engine.ilock.since = some 0 ∧ h.engine.state = .held)
    ∧ (HoldSafe r ∧ r.reservoir.failing.line = true ∧ r.reservoir.failing.since = some 0 ∧ r.reservoir.rail ≠ .fail
      ∧ r.engine.state ≠ .held)
    ∧ HoldSafe { r with engine := { r.engine with state := .held, interlock := true } } :=
  ⟨⟨holdSafe_of _ rfl rfl rfl rfl (by decide) (by decide) (by decide) (by decide), by decide⟩,
    ⟨holdSafe_of _ rfl rfl rfl rfl (by decide) (by decide) (by decide) (by decide), by decide⟩,
    ⟨holdSafe_of _ rfl rfl rfl rfl (by decide) (by decide) (by decide) (by decide), by decide⟩,
    holdSafe_of _ rfl rfl rfl rfl (by decide) (by decide) (by decide) (by decide)⟩

theorem witness_HoldSourceLeavesAndRailMoves :
    let s : State :=
      { silent with
        stb := 50
        engine := { silent.engine with state := .held, interlock := true, ilock := falling, fail := true }
        reservoir := { silent.reservoir with rail := .fail, failing := falling } }
    let l : State := { silent with stb := 50, reservoir := { silent.reservoir with low := rising } }
    s.supply.operating = true ∧ 0 + 50 ≤ s.stb ∧ s.engine.state = .held
    ∧ (s.engine.ilock.line = false ∧ s.engine.ilock.since = some 0)
    ∧ (s.reservoir.rail = .fail ∧ s.reservoir.failing.line = false ∧ s.reservoir.failing.since = some 0)
    ∧ (l.reservoir.failing.level = false ∧ l.reservoir.low.since = some 0 ∧ l.reservoir.rail = .normal
      ∧ l.reservoir.low.line = true)
    ∧ (let f : State := { s with reservoir := { s.reservoir with low := rising } }
      f.reservoir.failing.level = true ∧ f.reservoir.rail = .fail ∧ f.reservoir.low.since = some 0) := by
  decide

theorem witness_SettleEndLeavesHold :
    let empty : State :=
      { silent with stb := 2000, engine := { silent.engine with state := .held, settle := some 2000 } }
    let s := holding (chime 5 3 .interruptible 0) 2000
    (empty.supply.operating = true ∧ empty.engine.state = .held ∧ empty.engine.settle = some 2000 ∧ 2000 ≤ empty.stb
      ∧ empty.engine.held = none ∧ empty.engine.current = none ∧ empty.cues.waiting = [])
    ∧ (s.engine.settle = some 2000 ∧ s.engine.held = some { cue := chime 5 3 .interruptible 0, context := firstStroke }
      ∧ ∀ head ∈ s.cues.waiting.head?, (chime 5 3 .interruptible 0).priority ≤ head.priority)
    ∧ (let better : State := { s with cues := { waiting := [chime 6 2 .firm 0], nextId := 7 } }
      better.cues.waiting = chime 6 2 .firm 0 :: [] ∧ (chime 6 2 .firm 0).priority < (chime 5 3 .interruptible 0).priority
        ∧ better.queue = []) := by
  decide

/-- A planner's stint of an action with a cursor. -/
def stint (a : Action) (h : Header) (index repeats : Nat) : Stint :=
  { cueId := 1, action := a, origin := 1000, header := h, baseBeat := 437, baseRepeats := 2
    cursor := { index := index, repeats := repeats, beat := 437, remainder := 0, point := 1000 } }

/-- The example score's header, of one record. -/
def header1 : Header := { recordCount := 1, defaultBeat := 437, repeats := 2, repeatGap := 24 }

theorem witness_SoundTimesAreExact :
    let s (st : Stint) : State :=
      { stored (oneNote .ready 1) [(2, 5), (3, 3)] with planner := { silent.planner with stint := some st } }
    let score := Action.score 0 0 0
    let first := stint score header1 0 2
    let strokes := Action.count 3 6 600 3
    ((s first).planner.stint = some first ∧ first.cursor.index < first.header.recordCount
      ∧ (recordAt (s first).scores.mem (s first).scores.slots[(0 : SlotNo)].chain 0).valid = true)
    ∧ ((stint score header1 1 2).header.recordCount ≤ (stint score header1 1 2).cursor.index
      ∧ 1 < (stint score header1 1 2).cursor.repeats ∧ (stint score header1 1 1).cursor.repeats ≤ 1)
    ∧ ((stint strokes header1 2 0).cursor.index < 3 ∧ 3 ≤ (stint strokes header1 3 0).cursor.index) := by
  decide

/-- Bell 3's strokes, 1500 ms apart, being planned: the first is within the horizon, the second beyond it. -/
def planning3 (state : PlannerState) (stall : Option StallCause) (queue : List StrikeEntry) (c : ChannelState) : State :=
  let a := Action.count 3 6 1500 3
  { served c with
    queue := queue
    engine := { silent.engine with state := .starting, current := some (performing { chime 1 3 .firm 0 with action := a }) }
    planner :=
      { silent.planner with
        state := state, stall := stall, log := [logged 0 1000]
        stint := some (stint a { header1 with recordCount := 0 } 0 0) } }

theorem oneItemWithin_planning3 (state : PlannerState) (stall : Option StallCause) (queue : List StrikeEntry)
    (c : ChannelState) :
    let s := planning3 state stall queue c
    let st := stint (.count 3 6 1500 3) { header1 with recordCount := 0 } 0 0
    let cursor := { st.cursor with index := 1, point := 1000 }
    s.nextItem = some (.note 3 6, cursor) ∧ OneItemWithin s st cursor :=
  ⟨rfl, by simp [planning3, stint], _, _, rfl, (by decide : 0 + 1000 < 2500)⟩

theorem witness_PlannerSettlesNote :
    let st := stint (.count 3 6 1500 3) { header1 with recordCount := 0 } 0 0
    let s := planning3 .planning none [] .ready
    let full := planning3 .planning none (List.replicate 96 (stroke 5 5)) .firing
    let late : State := { s with planner := { s.planner with shadow := s.planner.shadow.set 3 906 } }
    let cursor : Cursor := { st.cursor with index := 1, point := 1000 }
    (s.supply.operating = true ∧ s.planner.stint = some st
      ∧ (s.engine.current.map fun p => p.cue.id) = some st.cueId ∧ s.planner.state = .planning)
    ∧ (noteDrops (planning3 .planning none [] .fault) 3 6 cursor ∧ noteDrops late 3 6 cursor ∧ ¬ noteDrops s 3 6 cursor
      ∧ ¬ noteDrops full 3 6 cursor ∧ s.queue.length < 96 ∧ 96 ≤ full.queue.length)
    ∧ ((planning3 .stalled (some .queue) [] .ready).planner.state = .stalled
      ∧ (planning3 .stalled (some .queue) [] .ready).planner.stall = some .queue) := by
  refine ⟨by decide, ⟨.inl (by decide), .inr (by decide), fun h => ?_, fun h => ?_, by decide, by decide⟩, by decide⟩
  · exact h.elim (fun k => k (.inl rfl)) (by decide)
  · exact h.elim (fun k => k (.inr (.inl rfl))) (by decide)

/-- The planner's items of the other kinds: a TEMPO record behind which one more is due, and a last BREATH behind which
nothing is left. -/
theorem witness_PlannerSettlesNote_items :
    let planning (repeats : Nat) (mem : List Host.Cell) : State :=
      { stored (oneNote .ready 1) mem with
        engine := { silent.engine with state := .playing, current := some (performing (chime 1 3 .firm 0)) }
        planner :=
          { silent.planner with
            state := .planning, log := [logged 0 1000], stint := some (stint (.score 0 0 0) header1 0 repeats) } }
    let c (repeats : Nat) : Cursor := { index := 1, repeats := repeats, beat := 437, remainder := 0, point := 1000 }
    let tempo := planning 2 [(0, 64), (2, 1), (3, 44)]
    let breath := planning 1 [(0, 128)]
    tempo.nextItem = some (.tempo 300, c 2) ∧ breath.nextItem = some (.lastBreath, c 1)
    ∧ breath.takeItem.planner.state = .done ∧ breath.takeItem.engine.state = .draining
    ∧ tempo.takeItem.planner.state = .planning ∧ (c 2).point ≤ tempo.stb + 1000 := by
  decide

/-- The wrap of the example score, within the horizon, with a log and an engine. -/
def wrapping (log : List LogContext) (e : EngineState) (p : Performance) (now : Stb) : State :=
  { stored (oneNote .ready 1) [(0, 4), (2, 5), (3, 3)] with
    stb := now
    engine := { silent.engine with state := e, current := some p }
    planner :=
      { silent.planner with state := .planning, log := log, stint := some (stint (.score 0 0 0) header1 1 2) } }

theorem witness_BreathMarksAreLoggedAndRetire :
    let s := wrapping [logged 0 1000] .playing (performing (chime 1 3 .firm 0)) 300
    let st := stint (.score 0 0 0) header1 1 2
    let c : Cursor := { index := 0, repeats := 1, beat := 437, remainder := 24, point := 1218 }
    let y := wrapping [logged 0 1000] .yielding (yielding .interruptible none) 300
    (s.supply.operating = true ∧ s.planner.stint = some st ∧ s.planner.state = .planning
      ∧ s.nextItem = some (.wrap, c) ∧ OneItemWithin s st c)
    ∧ (s.planner.log.length < 4 ∧ s.engine.state ≠ .yielding)
    ∧ (y.engine.state = .yielding ∧ y.engine.current = some (yielding .interruptible none) ∧ c.point ≤ 8000)
    ∧ (wrapping [logged 0 0, logged 1 400, logged 2 500, logged 3 600] .playing (performing (chime 1 3 .firm 0))
        300).planner.log.length = 4
    ∧ ([logged 0 1000, logged 1 1100] = [logged 0 1000] ++ logged 1 1100 :: [] ∧ [logged 0 1000] ≠ []
      ∧ (logged 1 1100).sound ≤ 1100) :=
  ⟨⟨rfl, rfl, rfl, by decide, by decide, _, _, rfl, by decide⟩, by decide, by decide, by decide, by decide⟩

/-- A log of two, the older overtaken, is in order. -/
theorem witness_BreathMarksAreLoggedAndRetire_ordered :
    let s := wrapping [logged 0 900, logged 1 1000] .playing (performing (chime 1 3 .firm 0)) 1000
    PlannerOrdered { s with planner := { s.planner with phrase := 1 } } :=
  ⟨fun _ h => by cases h; decide, fun _ _ _ _ _ h a => by (cases h; cases a), by decide,
    fun c hc _ h => by
      cases h
      have hm : c ∈ [logged 0 900, logged 1 1000] := hc
      simp only [List.mem_cons, List.not_mem_nil, or_false] at hm
      rcases hm with rfl | rfl <;> decide,
    fun _ => ⟨rfl, by decide⟩, fun h => (nomatch h)⟩

theorem witness_FirstAskingEntryFires :
    let e := stroke 40 40
    let early := stroke 81 81
    let s : State := { served .ready with stb := 80, queue := [early, e] }
    (s.supply.operating = true ∧ s.queue = [early] ++ e :: [] ∧ Asks s e ∧ ∀ x ∈ [early], ¬ Asks s x)
    ∧ (({ s with reservoir := { s.reservoir with charge := 17 } } : State).reservoir.charge < e.cost)
    ∧ (e.cost ≤ s.reservoir.charge ∧ s.reservoir.testDraw = none ∧ awaits s 3 = false ∧ e.origin = .direct)
    ∧ (let w : State :=
        { s with
          bells := silent.bells.set 3 { bell3 with misses := 2 }
          monitor := (answering3 0 bell3 false 80).monitor }
      awaits w 3 = true ∧ 2 ≤ w.bells[(3 : Bell)].misses)
    ∧ ∀ x ∈ ({ s with queue := [early] } : State).queue, ¬ Asks { s with queue := [early] } x := by
  have waits : ¬ Asks { served .ready with stb := 80, queue := [stroke 81 81] } (stroke 81 81) :=
    fun h => absurd h.1 (by decide)
  refine ⟨⟨rfl, rfl, ⟨by decide, by decide, by decide⟩, ?_⟩, by decide, by decide, by decide, ?_⟩
  · intro x hx h
    simp only [List.mem_singleton] at hx
    subst hx
    exact absurd h.1 (by decide)
  · intro x hx
    simp only [List.mem_singleton] at hx
    subst hx
    exact waits

theorem witness_LateEntriesAreDropped :
    let s : State :=
      { playing .playing (performing (chime 1 3 .firm 0)) [] 81 with
        queue := [stroke 41 41, stroke 40 40, { stroke 40 40 with origin := .performance 1 0 }] }
    s.supply.operating = true ∧ s.queue = [stroke 41 41] ++ stroke 40 40 :: [{ stroke 40 40 with origin := .performance 1 0 }]
    ∧ ((stroke 40 40).earliest ≤ s.stb ∧ (stroke 40 40).target + s.reservoir.lateLimit < s.stb)
    ∧ ¬ (stroke 41 41).target + s.reservoir.lateLimit < s.stb
    ∧ (∀ e ∈ ({ s with stb := 80 } : State).queue, ¬ (e.earliest ≤ 80 ∧ e.target + 40 < 80)) := by
  decide

theorem witness_PulseAndRecoveryEnd :
    let c : Channel := { state := .firing, pulseEnd := some 18, recoveryEnd := 0, prior := none, gate := true }
    let s : State := { served .firing with stb := 18, channels := silent.channels.set 3 c }
    s.supply.operating = true ∧ s.channels[(3 : Bell)].state = .firing ∧ s.channels[(3 : Bell)].pulseEnd = some 18
    ∧ 18 ≤ s.stb ∧ ({ s with stb := 17 } : State).stb < 18
    ∧ ((served .recovering).channels[(3 : Bell)].state = .recovering
      ∧ (served .recovering).channels[(3 : Bell)].recoveryEnd ≤ 200) := by
  decide

theorem witness_RefillStepRaisesCharge :
    let s : State := { silent with refillDue := true }
    s.supply.operating = true ∧ s.refillDue = true := by decide

theorem witness_SettingsWriteTakesAll :
    Listening silent ∧ ([30, 0, 15, 160, 8] : List Byte).length = 5
    ∧ (settingsChecks [30, 0, 15, 160, 8]).all id = true ∧ silent.engine.current = none :=
  ⟨listening_silent, by decide, by decide, by decide⟩

theorem witness_BellWriteReplacesRecord :
    let p := written3 20 200 60 200 120
    let c := configFields p
    Listening (served .ready) ∧ Listening silent ∧ (p.length = 13 ∧ (configChecks p).all id = true ∧ u8 p 0 = 3)
    ∧ (c.floor < c.ceiling ∧ c.floor ≤ c.seed ∧ c.seed ≤ c.ceiling ∧ c.driveWidth < c.recovery
      ∧ c.driveWidth ≤ c.ceiling)
    ∧ silent.channels[(3 : Bell)].state = .absent ∧ (served .ready).channels[(3 : Bell)].state = .ready :=
  ⟨listening_of _ rfl rfl, listening_silent, by decide, by decide, by decide, by decide⟩

theorem witness_ServiceRequestsMoveChannel :
    (∀ c : ChannelState, Listening (served c)) ∧ (∀ c : ChannelState, (served c).channels[(3 : Bell)].state = c)
    ∧ (served .disabled).stb < (served .disabled).channels[(3 : Bell)].recoveryEnd
    ∧ ({ served .disabled with stb := 200 } : State).channels[(3 : Bell)].recoveryEnd ≤ 200
    ∧ (served .ready).engine.current = none :=
  ⟨fun _ => listening_of _ rfl rfl, fun c => by cases c <;> decide, by decide, by decide, by decide⟩

theorem witness_StrikePlacesDirectEntry :
    let s := served .recovering
    let late : State := { s with planner := { s.planner with shadow := s.planner.shadow.set 3 41 } }
    let edge : State := { s with planner := { s.planner with shadow := s.planner.shadow.set 3 40 } }
    Listening s ∧ s.engine.interlock = false ∧ s.engine.fail = false ∧ s.engine.state = .idle
    ∧ s.channels[(3 : Bell)].state = .recovering ∧ (served .fault).channels[(3 : Bell)].state = .fault
    ∧ late.reservoir.lateLimit < max late.stb late.planner.shadow[(3 : Bell)] - late.stb
    ∧ max edge.stb edge.planner.shadow[(3 : Bell)] - edge.stb ≤ edge.reservoir.lateLimit ∧ edge.queue.length < 96
    ∧ (holding (chime 1 3 .firm 0) 0).engine.state ≠ .idle :=
  ⟨listening_of _ rfl rfl, by decide⟩

theorem witness_LinesAreDebouncedAndFiltered :
    let s : State := { served .ready with monitor := { silent.monitor with inputs := silent.monitor.inputs.set 3 (.filtering 31) } }
    silent.supply.operating = true ∧ (after .rstnLow silent).supply.operating = false
    ∧ silent.monitor.inputs[(3 : Bell)] = .clear ∧ s.monitor.inputs[(3 : Bell)] = .filtering 31
    ∧ s.stb < 31 / 16 + 1
    ∧ silent.reservoir.low.since = none ∧ rising.since = some 0
    ∧ ({ silent with stb := 49, engine := { silent.engine with ilock := rising } } : State).stb < 0 + 50 := by
  decide

theorem witness_ImpactsAreRouted :
    let s := answering3 (16 * 238) bell3 true 239
    let none_ : State := { s with monitor := { s.monitor with windows := silent.monitor.windows } }
    let t := tested (testing3 .listening) 101 500
    (s.supply.operating = true ∧ s.monitor.inputs[(3 : Bell)] = .filtering (16 * 238) ∧ 16 * 238 / 16 + 1 ≤ s.stb
      ∧ s.engine.interlock = false ∧ s.channels[(3 : Bell)].state = .recovering
      ∧ (s.monitor.windows[(3 : Bell)].map Window.answered) = some true)
    ∧ (none_.monitor.windows[(3 : Bell)] = none ∧ none_.bells[(3 : Bell)].strays = 0
      ∧ 0 < { bell3 with strays := 255 }.strays)
    ∧ (t.channels[(3 : Bell)].state = .testing ∧ t.monitor.test = some (testing3 .listening)
      ∧ t.monitor.inputs[(3 : Bell)] = .filtering 1600 ∧ 1600 / 16 + 1 ≤ t.stb
      ∧ (testing3 .listening).pulseStart = some 100 ∧ (testing3 .listening).observation = none) :=
  ⟨by decide, by decide, by decide, by decide, by decide, by decide, by decide⟩

/-- An edge before the pulse start, too, observes something: the free value. -/
theorem witness_Observes_free :
    Observes silent 1599 100 (Config.freeObservation 0 % 17) 1 :=
  .inr ⟨by decide, rfl, by decide⟩

theorem witness_ObservationsAreJudged :
    let s := answering3 (16 * 238) bell3 false 239
    let w : Window := { pulseStart := 100, velocity := 6, closeTime := 345, answered := false }
    (s.supply.operating = true ∧ s.monitor.inputs[(3 : Bell)] = .filtering (16 * 238) ∧ 16 * 238 / 16 + 1 ≤ s.stb
      ∧ s.engine.interlock = false ∧ s.channels[(3 : Bell)].state = .recovering ∧ s.monitor.windows[(3 : Bell)] = some w
      ∧ w.answered = false)
    ∧ Observes s (16 * 238) 100 2208 s.freeIndex
    ∧ (1963 - 1920) * 4 ≤ 1920 ∧ 1940 < (2844 - 1940) * 4 ∧ { bell3 with outliers := 4 }.outliers < 5
    ∧ 5 ≤ { bell3 with outliers := 5 }.outliers :=
  ⟨by decide, .inl (by decide), by decide, by decide, by decide, by decide⟩

theorem witness_WindowsCloseOrMiss :
    let s (r : BellRecord) (answered : Bool) (now : Stb) := answering3 9999 r answered now
    (s bell3 true 345).supply.operating = true ∧ silent.monitor.windows[(3 : Bell)] = none
    ∧ (s bell3 true 344).stb < 345 ∧ 345 ≤ (s bell3 true 345).stb
    ∧ ((s bell3 false 345).monitor.windows[(3 : Bell)].map Window.answered) = some false
    ∧ (s { bell3 with misses := 1 } false 345).bells[(3 : Bell)].misses < 2
    ∧ 2 ≤ (s { bell3 with misses := 2 } false 345).bells[(3 : Bell)].misses
    ∧ (s bell3 false 345).channels[(3 : Bell)].state = .recovering := by
  decide

theorem witness_TestAcceptedOrRefused :
    (∀ c : ChannelState, Listening (served c)) ∧ (∀ c : ChannelState, (served c).channels[(3 : Bell)].state = c)
    ∧ ((served .ready).engine.interlock = false ∧ (served .ready).engine.fail = false
      ∧ (served .ready).engine.state = .idle ∧ (served .ready).monitor.test = none
      ∧ (served .ready).engine.current = none)
    ∧ (tested (testing3 .pulse) 0 0).monitor.test ≠ none :=
  ⟨fun _ => listening_of _ rfl rfl, fun c => by cases c <;> decide, by decide, by decide⟩

theorem witness_TestPulseStartsOrExpires :
    let s := tested (testing3 .waiting) 500 500
    let late := tested (testing3 .waiting) 1000 1001
    (s.supply.operating = true ∧ s.monitor.test = some (testing3 .waiting) ∧ s.reservoir.testDraw ≠ none
      ∧ (testing3 .waiting).cost ≤ s.reservoir.charge ∧ s.channels[(3 : Bell)].recoveryEnd ≤ s.stb
      ∧ s.monitor.isovr = false)
    ∧ ({ s with monitor := { s.monitor with isovr := true } } : State).monitor.isovr = true
    ∧ (¬ late.channels[(3 : Bell)].recoveryEnd ≤ late.stb ∧ (testing3 .waiting).deadline ≤ late.stb
      ∧ s.stb < (testing3 .waiting).deadline ∧ (testing3 .pulse).phase ≠ .waiting) := by
  decide

theorem witness_TestIsJudgedAndEnds :
    let s (p : TestPhase) (now recoveryEnd : Stb) := tested (testing3 p) now recoveryEnd
    ((s .pulse 119 0).supply.operating = true ∧ (s .pulse 119 0).monitor.test = some (testing3 .pulse)
      ∧ (testing3 .pulse).phase = .pulse ∧ (testing3 .pulse).pulseEnd = some 120)
    ∧ ((s .pulse 119 0).stb < 120 ∧ 120 ≤ (s .pulse 120 0).stb ∧ { testing3 .pulse with minSeen := false }.minSeen = false
      ∧ (testing3 .pulse).minSeen = true ∧ (testing3 .pulse).observation = none
      ∧ 479 < (testing3 .pulse).earlyLimit ∧ (testing3 .pulse).earlyLimit ≤ 480)
    ∧ ((testing3 .listening).pulseStart = some 100 ∧ (s .listening 519 520).stb < 100 + (testing3 .listening).windowLength
      ∧ (s .listening 519 520).stb < (s .listening 519 520).channels[(3 : Bell)].recoveryEnd
      ∧ 100 + (testing3 .listening).windowLength ≤ (s .listening 520 521).stb
      ∧ (s .listening 320 320).channels[(3 : Bell)].recoveryEnd ≤ (s .listening 320 320).stb)
    ∧ ((testing3 .settled).phase = .settled ∧ (s .settled 320 320).channels[(3 : Bell)].recoveryEnd ≤ 320
      ∧ (s .settled 319 320).stb < 320) := by
  decide

theorem taking_linked (a : Assembler) (reply : Option Frame) : Taking (linked a none reply []) :=
  ⟨rfl, rfl, rfl, rfl, rfl, by cases a <;> rfl⟩

theorem witness_CharactersAreTakenOrWait :
    let c := cleanByte
    let body := Assembler.body (c 0) [c 1, c 0x2A]
    let s (a : Assembler) := linked a none none []
    let held (n : Nat) := linked .hunting (some (.good 1 1 [])) (some someReply) (List.replicate n (c 0))
    (Taking (s .hunting) ∧ Taking (s .length) ∧ Taking (s (.body (c 1) [c 1])) ∧ Taking (s body)
      ∧ Taking (linked body none (some someReply) []))
    ∧ (([c 1] : List RxByte).length + 1 < (c 1).data.toNat + 3 ∧ ([] : List RxByte).length = (c 0).data.toNat)
    ∧ (([c 0, c 1, c 0x2A, c 0xD5].map RxByte.data).foldl (· + ·) 0 = 0
      ∧ ([c 0, c 1, c 0x2A, c 0xD4].map RxByte.data).foldl (· + ·) 0 ≠ 0
      ∧ ∀ y ∈ [c 0, c 1, c 0x2A, c 0xD5], y.overrun = false ∧ y.framing = false ∧ y.parity = false)
    ∧ ([c 0, { c 1 with parity := true, framing := true }, c 0x2A, { c 0xD5 with overrun := true }] =
        [c 0] ++ { c 1 with parity := true, framing := true } :: [c 0x2A, { c 0xD5 with overrun := true }])
    ∧ ((held 47).supply.operating = true ∧ (held 47).link.inBreak = false ∧ (held 47).link.ended = some (.good 1 1 [])
      ∧ (held 63).link.fifo.length < 64 ∧ (held 64).link.fifo = List.replicate 63 (c 0) ++ [c 0]
      ∧ 64 ≤ (held 64).link.fifo.length)
    ∧ (after .lineBreak silent).link.inBreak = true :=
  ⟨⟨taking_linked _ _, taking_linked _ _, taking_linked _ _, taking_linked _ _, taking_linked _ _⟩, by decide, by decide,
    by decide, by decide, by decide⟩

theorem witness_DamagedFramesAreRejected :
    let c := cleanByte
    let s (a : Assembler) (now : Stb) : State := { linked a none none [] with stb := now }
    let body := Assembler.body (c 1) [c 1]
    let marked := Assembler.body (c 1) [{ c 1 with parity := true, framing := true }, { c 2 with overrun := true }]
    ((s .length 101).supply.operating = true ∧ (s .length 101).link.ended = none ∧ (s .length 101).link.fifo = []
      ∧ (s .length 101).link.inBreak = false ∧ (s .length 101).link.gapDeadline = some 100 ∧ 100 < (s .length 101).stb
      ∧ (s .length 101).link.reply = none ∧ (linked .length none (some someReply) []).link.reply ≠ none)
    ∧ ((s body 101).link.assembler = .body (c 1) [c 1] ∧ (s .length 100).stb ≤ 100
      ∧ (s .hunting 101).link.assembler = .hunting)
    ∧ ((s .hunting 101).gapPassed = false ∧ (s .length 100).gapPassed = false ∧ (s body 100).gapPassed = false
      ∧ (s marked 100).gapPassed = false ∧ (s body 100).link.inBreak = false ∧ (s body 100).link.ended = none
      ∧ RejectReason.parity ≠ .timeout ∧ RejectReason.parity ≠ .length)
    ∧ ((∀ y ∈ c 1 :: [c 1], y.overrun = false ∧ y.framing = false ∧ y.parity = false)
      ∧ c 1 :: [{ c 1 with parity := true, framing := true }, { c 2 with overrun := true }]
        = [c 1] ++ { c 1 with parity := true, framing := true } :: [{ c 2 with overrun := true }])
    ∧ ((after .lineBreak silent).link.inBreak = true
      ∧ (linked .hunting (some (.good 1 1 [])) (some someReply) []).link.ended ≠ none) := by
  decide

theorem witness_BreakClearsReceiver :
    let c := cleanByte
    let s := linked (.body (c 1) [c 1]) none none []
    let whole := linked (.body (c 0) [c 1, c 0x2A]) none none []
    (s.supply.operating = true ∧ s.link.inBreak = false ∧ s.gapPassed = false ∧ s.link.fifo = []
      ∧ ([c 1] : List RxByte).length + 1 < (c 1).data.toNat + 3)
    ∧ (whole.link.ended = none ∧ whole.link.assembler = .body (c 0) (c 1 :: c 0x2A :: [])
      ∧ ([] : List RxByte).length = (c 0).data.toNat
      ∧ ∀ y ∈ c 0 :: c 1 :: c 0x2A :: [], y.overrun = false ∧ y.framing = false ∧ y.parity = false)
    ∧ (c 0 :: { c 1 with parity := true } :: c 0x2A :: [] = [c 0] ++ { c 1 with parity := true } :: [c 0x2A])
    ∧ ({ s with stb := 101 } : State).gapPassed = true
    ∧ (after .lineBreak silent).link.inBreak = true ∧ (after .rstnLow silent).supply.operating = false := by
  decide

theorem witness_TransmitterChoosesAndIsFreed :
    let s (t : Transmitter) (ended : Option EndedFrame) : State :=
      { silent with link := { silent.link with transmitter := t, ended := ended, reply := some someReply } }
    let busy := Transmitter.sending someReply true 0
    (silent.link.transmitter = .idle ∧ (s .idle none).link.reply = some someReply ∧ silent.notices.waiting = []
      ∧ (silent.raise (.strayImpact 3)).notices.waiting = .strayImpact 3 :: [] ∧ silent.link.reply = none)
    ∧ ((s busy none).supply.operating = true ∧ (s busy none).link.transmitter = .sending someReply true 0
      ∧ (s busy none).link.restartPending = false ∧ (s busy none).link.fifo = [] ∧ (s busy none).link.ended = none
      ∧ (s busy (some (.good 1 2 []))).link.ended = some (.good 1 2 [])
      ∧ (s busy (some (.rejected .check none none))).link.ended = some (.rejected .check none none)
      ∧ (s (.sending someReply false 0) none).link.transmitter = .sending someReply false 0)
    ∧ ((linked .hunting none none [cleanByte 1]).link.ended = none
      ∧ (linked .hunting none none [cleanByte 1]).link.fifo = cleanByte 1 :: []
      ∧ someReply.bytes[5]? = some 0x7D ∧ 10 < 11 ∧ 999 < 1000) := by
  decide

theorem witness_GoodFrameIsRequest :
    Listening silent ∧ silent.link.holdo = false ∧ silent.link.gapDeadline = none ∧ silent.choiceWaits = false
    ∧ (List.replicate 120 (0xC3 : Byte)).length ≤ 120 :=
  ⟨listening_silent, by decide, by decide, by decide, by decide⟩

/-- A performance in its hold, agreed. -/
theorem holdSafe_holding (c : Cue) (now : Stb) : HoldSafe (holding c now) :=
  holdSafe_of _ rfl rfl rfl rfl (fun _ => rfl) (fun _ => rfl) (fun _ => rfl) (fun _ => rfl)

theorem witness_StepsKeepHoldSafe :
    let s := holding (chime 5 3 .firm 0) 2000
    HoldSafe s ∧ s.engine.state = .held ∧ (∃ t, step s = .next t ∧ t.engine.state = .starting) :=
  ⟨holdSafe_holding _ _, by decide, _, rfl, by decide⟩

/-- Bell 3's record, and the cold one, lie in their ranges. -/
theorem bellInRange_served (c : ChannelState) (b : Bell) : BellInRange (served c).bells[b] := by
  show BellInRange ((Vector.replicate 64 coldBell).set 3 bell3)[b]
  by_cases hb : b.val = 3
  · have : ((Vector.replicate 64 coldBell).set 3 bell3)[b] = bell3 := by simp [Fin.getElem_fin, hb]
    rw [this]
    constructor <;> decide
  · have : ((Vector.replicate 64 coldBell).set 3 bell3)[b] = coldBell := by
      simp [Fin.getElem_fin, Vector.getElem_set_ne, Ne.symm hb]
    rw [this]
    constructor <;> decide

theorem witness_StepsKeepRanges :
    let s := served .ready
    Bounded s ∧ SettingsInRange s ∧ CalendarReal s ∧ (∀ b : Bell, BellInRange s.bells[b]) ∧ ∃ t, step s = .next t :=
  ⟨by constructor <;> decide, by constructor <;> decide, by constructor <;> decide, bellInRange_served _, _, rfl⟩

/-- Bell 3 ready with a stroke waiting at 865, its shadow behind it. -/
def waiting3 : State :=
  { served .ready with
    queue := [stroke 865 865], planner := { silent.planner with shadow := silent.planner.shadow.set 3 1083 } }

theorem holdSafe_waiting3 : HoldSafe waiting3 := by
  have off : ∀ b : Bell, waiting3.channels[b].gate = false := by decide
  have idle : ∀ b : Bell, waiting3.channels[b].state ≠ .testing := by decide
  refine ⟨rfl, fun h => (nomatch h), fun _ => rfl, fun h => (nomatch h), fun h => (nomatch h), fun _ h => (nomatch h),
    fun b h => absurd h (idle b), ?_, fun h => (nomatch h), fun _ => off⟩
  intro b hb
  rw [off b] at hb
  cases hb

theorem witness_StepsKeepQueueServed :
    HoldSafe waiting3 ∧ (∀ b : Bell, BellInRange waiting3.bells[b]) ∧ QueueServed waiting3 ∧ ∃ t, step waiting3 = .next t :=
  ⟨holdSafe_waiting3, bellInRange_served .ready, ⟨by decide, by decide, by decide⟩, _, rfl⟩

theorem witness_StepsKeepPlannerOrdered :
    let s := wrapping [logged 0 900, logged 1 1000] .playing (performing (chime 1 3 .firm 0)) 1000
    let t : State := { s with planner := { s.planner with phrase := 1 } }
    PlannerOrdered t ∧ ∃ u, step t = .next u :=
  ⟨witness_BreathMarksAreLoggedAndRetire_ordered, _, rfl⟩

/-- A cue of entry 7 in its hold, the entry latched. -/
def heldLatched : State :=
  { holding (chime 5 3 .firm 0) 0 with schedule := silent.schedule.set 7 (some (everyMinute true true threeStrokes)) }

/-- An empty store is sound. -/
theorem storeSound_heldLatched : StoreSound heldLatched :=
  ⟨by show (usedBlocks (Vector.replicate 32 emptySlot).toList).Nodup; decide,
    by show ∀ k ∈ usedBlocks (Vector.replicate 32 emptySlot).toList, k < 512; decide,
    fun i => by
      show SlotFits (Vector.replicate 32 emptySlot)[i]
      rw [show (Vector.replicate 32 emptySlot)[i] = emptySlot from Vector.getElem_replicate ..]
      exact ⟨fun _ => rfl, rfl, fun h => absurd rfl h, fun h => (nomatch h), fun h => absurd h (by decide)⟩⟩

theorem witness_StepsKeepCuesCounted :
    HoldSafe heldLatched ∧ Bounded heldLatched ∧ StoreSound heldLatched ∧ CuesOrdered heldLatched
      ∧ CuesCounted heldLatched ∧ ∃ t, step heldLatched = .next t :=
  ⟨holdSafe_of _ rfl rfl rfl rfl (fun _ => rfl) (fun _ => rfl) (fun _ => rfl) (fun _ => rfl),
    by constructor <;> decide, storeSound_heldLatched, ⟨by decide, by decide, by decide, by decide⟩, ⟨by decide, by decide⟩, _, rfl⟩

theorem witness_StepsKeepStoreSound :
    let s := stored (oneNote .ready 1) [(2, 5), (3, 3)]
    Memory.wf s.scores.mem = true ∧ StoreSound s ∧ ReadyValid s ∧ ∃ t, step s = .next t :=
  ⟨by decide,
    storeSound_stored _ _
      ⟨fun h => (nomatch h), by decide, fun _ => by decide, fun _ => by decide, fun h => absurd h (by decide)⟩ (by decide)
      (by decide),
    by unfold ReadyValid; decide, _, rfl⟩

theorem witness_StepsKeepServiceAgrees :
    HoldSafe waiting3 ∧ ServiceAgrees waiting3 ∧ ∃ t, step waiting3 = .next t :=
  ⟨holdSafe_waiting3, ⟨by decide, by decide, by decide⟩, _, rfl⟩

end Sys2Proof.Tests
end

section
/-! SUPPORT. The family of the Calendar Clock: civil time, what a second step, a TIME_SET and a quiet millisecond do,
and the arrival of a better cue, by PLAY or by a schedule entry of an evaluated second. -/

namespace Sys2Proof.CalendarClock

open Sys2Proof.Machine

/-! ## Civil time (R34 to R36) -/

theorem real_iff (t : CalTime) :
    t.real = true ↔
      2000 ≤ t.year ∧ t.year ≤ 2099 ∧ 1 ≤ t.month ∧ t.month ≤ 12 ∧ 1 ≤ t.day ∧ t.day ≤ monthLength t.year t.month
        ∧ t.hour ≤ 23 ∧ t.minute ≤ 59 ∧ t.second ≤ 59 := by
  simp [CalTime.real]

theorem one_le_monthLength (year month : Nat) : 1 ≤ monthLength year month := by
  unfold monthLength
  split
  · split <;> omega
  all_goals omega

theorem monthLength_le (year month : Nat) : monthLength year month ≤ 31 := by
  unfold monthLength
  split
  · split <;> omega
  all_goals omega

theorem daysBeforeMonth_succ (year : Nat) {month : Nat} (h : 1 ≤ month) :
    daysBeforeMonth year (month + 1) = daysBeforeMonth year month + monthLength year month := by
  cases month with
  | zero => omega
  | succ m => rfl

/-- The days before December, which with December's 31 make the year. -/
theorem daysBeforeMonth_december (year : Nat) :
    daysBeforeMonth year 12 = if year % 4 = 0 then 335 else 334 := by
  simp only [daysBeforeMonth, monthLength, leapYear, decide_eq_true_eq]
  split <;> rfl

/-- The date is the last of the calendar's range, 2099-12-31. -/
def OnLastDay (t : CalTime) : Prop := t.year = 2099 ∧ t.month = 12 ∧ t.day = 31

/-- Past the end of a month, of a year and of the range, the next day is a real one. -/
theorem nextDay_real {t : CalTime} (hr : t.real = true) : (nextDay t).real = true := by
  obtain ⟨hy, hy', hm, hm', hd, hd', -⟩ := (real_iff t).1 hr
  rw [real_iff]
  unfold nextDay
  split
  case isTrue hday => exact ⟨hy, hy', hm, hm', by simp, hday, by simp⟩
  case isFalse =>
    split
    case isTrue hmonth => exact ⟨hy, hy', by simp, hmonth, by simp, one_le_monthLength .., by simp⟩
    case isFalse =>
      split
      case isTrue hyear => exact ⟨by simp; omega, hyear, by simp, by simp, by simp, one_le_monthLength .., by simp⟩
      case isFalse => decide

theorem nextDay_midnight (t : CalTime) : secondOfDay (nextDay t) = 0 := by
  unfold nextDay
  split
  · rfl
  · split
    · rfl
    · split <;> rfl

/-- The next day has the next day number: a month's end carries by the month's length, a year's by 365 or 366. -/
theorem dayNumber_nextDay {t : CalTime} (hr : t.real = true) (hlast : ¬ OnLastDay t) :
    dayNumber (nextDay t) = dayNumber t + 1 := by
  obtain ⟨hy, hy', hm, hm', hd, hd', -⟩ := (real_iff t).1 hr
  unfold nextDay
  split
  case isTrue => simp only [dayNumber]; omega
  case isFalse hday =>
    split
    case isTrue => simp only [dayNumber, daysBeforeMonth_succ t.year hm]; omega
    case isFalse hmonth =>
      have hdec : t.month = 12 := by omega
      have hlen : monthLength t.year t.month = 31 := by rw [hdec]; rfl
      have hyear : t.year < 2099 := by unfold OnLastDay at hlast; omega
      rw [if_pos hyear]
      simp only [dayNumber, hdec, daysBeforeMonth_december, daysBeforeMonth]
      split <;> omega

theorem nextSecond_real {t : CalTime} (hr : t.real = true) : (nextSecond t).real = true := by
  have h := (real_iff t).1 hr
  unfold nextSecond
  split
  case isTrue => rw [real_iff]; dsimp only; omega
  case isFalse =>
    split
    case isTrue => rw [real_iff]; dsimp only; omega
    case isFalse =>
      split
      case isTrue => rw [real_iff]; dsimp only; omega
      case isFalse => exact nextDay_real hr

theorem secondsBetween_sameDay {t u : CalTime} (hd : dayNumber u = dayNumber t)
    (hs : secondOfDay u = secondOfDay t + 1) : secondsBetween t u = 1 := by
  simp only [secondsBetween, hd, hs]
  omega

/-- Within a day the second of the day rises by 1; over midnight the day number does, and 86399 falls to 0. -/
theorem secondsBetween_nextSecond {t : CalTime} (hr : t.real = true) (hlast : t ≠ lastSecond) :
    secondsBetween t (nextSecond t) = 1 := by
  obtain ⟨-, -, -, -, -, -, hhour, hminute, hsecond⟩ := (real_iff t).1 hr
  unfold nextSecond
  split
  case isTrue => exact secondsBetween_sameDay rfl (by simp only [secondOfDay]; omega)
  case isFalse hs =>
    split
    case isTrue => exact secondsBetween_sameDay rfl (by simp only [secondOfDay]; omega)
    case isFalse hmin =>
      split
      case isTrue => exact secondsBetween_sameDay rfl (by simp only [secondOfDay]; omega)
      case isFalse hh =>
        have hday : ¬ OnLastDay t := by
          rintro ⟨hy, hm, hd⟩
          refine hlast ?_
          obtain ⟨year, month, day, hour, minute, second⟩ := t
          simp only [lastSecond, CalTime.mk.injEq]
          dsimp only at *
          omega
        have hend : secondOfDay t = 86399 := by simp only [secondOfDay]; omega
        simp only [secondsBetween, dayNumber_nextDay hr hday, nextDay_midnight, hend]
        omega

/-- The weekday goes with the day number, modulo 7 (R35). -/
theorem weekday_of_dayNumber_succ {t u : CalTime} (h : dayNumber u = dayNumber t + 1) :
    weekday u = if weekday t = 7 then 1 else weekday t + 1 := by
  split <;> simp only [weekday] at * <;> omega

/-- Settles O12: over midnight the day number carries through month and year, and within a day the second of the day. -/
theorem nextSecondIsOneSecondLater : Obligations.NextSecondIsOneSecondLater := by
  intro t hr
  refine ⟨nextSecond_real hr, secondsBetween_nextSecond hr, ?_, fun _ => weekday_of_dayNumber_succ⟩
  simp only [weekday]
  omega

/-! ## The choice and the quiet millisecond (R36, R196) -/

theorem choiceWaits_of_idle {s : State} (hidle : s.link.transmitter = .idle)
    (h : s.link.reply ≠ none ∨ s.notices.waiting ≠ []) : s.choiceWaits = true := by
  simp only [State.choiceWaits, hidle, Bool.or_eq_true, Bool.not_eq_true', List.isEmpty_eq_false_iff,
    Option.isSome_iff_ne_none]
  exact h

theorem step_eq_choose {s : State} (hp : s.pending = []) (hc : s.mustChoose = true) : step s = .next s.choose := by
  simp [step, hp, hc]

theorem step_eq_exec_due {s : State} {c : Instr} (hp : s.pending = []) (hc : s.mustChoose = false)
    (hd : s.nextDue = some c) : step s = exec c s := by
  simp [step, hp, hc, hd]

theorem step_eq_pass {s : State} (hp : s.pending = []) (hc : s.mustChoose = false) (hd : s.nextDue = none) :
    step s = .next s.pass := by
  simp [step, hp, hc, hd]

/-- With nothing due and no start under way, a millisecond passes. -/
theorem step_eq_tick {s : State} (hp : s.pending = []) (hc : s.mustChoose = false) (hd : s.nextDue = none)
    (hs : s.supply.operating = true ∨ s.supply.starting = none) : step s = .next s.tick := by
  have hpass : s.pass = s.tick := by
    unfold State.pass
    split
    case h_1 hoff hon => simp_all
    case h_2 => rfl
  rw [step_eq_pass hp hc hd, hpass]

/-- Settles O2: the choice, the due row and the millisecond, each from its own equation of the step. -/
theorem quietMillisecondPasses : Obligations.QuietMillisecondPasses := by
  intro s hp
  refine ⟨fun hop hidle hwait => ?_, fun c hc hd => ?_, fun hop hc hd => ?_, fun hop hst hdue => ?_⟩
  · exact step_eq_choose hp (by simp [State.mustChoose, hop, choiceWaits_of_idle hidle hwait])
  · exact step_eq_exec_due hp hc hd
  · rw [step_eq_tick hp hc hd (.inl hop)]
    simp only [State.tick, State.setCalendar_supply, hop, if_true]
    rfl
  · have hc : s.mustChoose = false := by simp [State.mustChoose, hop]
    have hd : s.nextDue = none := by simp [State.nextDue, dueIf, hop, hdue]
    rw [step_eq_tick hp hc hd (.inr hst)]
    simp only [State.tick, State.setCalendar_supply, hop]
    rfl

/-- After a choice the transmitter sends, or there was nothing to send. -/
theorem choiceWaits_choose (s : State) : s.choose.choiceWaits = false := by
  unfold State.choose
  split
  case h_1 hsending => simp [State.choiceWaits, hsending]
  case h_2 hidle =>
    split
    case h_1 => simp [State.choiceWaits]
    case h_2 hreply hwaiting => simp [State.choiceWaits, hidle, hreply, hwaiting]
    case h_3 => simp [State.choiceWaits]

theorem choose_choose (s : State) : s.choose.choose = s.choose := State.choose_idle _ (choiceWaits_choose s)

theorem choose_calendar (s : State) : s.choose.calendar = s.calendar := (touches_choose s).same .calendar (by decide)

theorem choose_supply (s : State) : s.choose.supply = s.supply := (touches_choose s).same .supply (by decide)

theorem answering_calendar (s : State) (kind tag : Byte) (status : Status) (fields : List Byte) :
    (s.answering kind tag status fields).calendar = s.calendar := choose_calendar _

theorem answering_supply (s : State) (kind tag : Byte) (status : Status) (fields : List Byte) :
    (s.answering kind tag status fields).supply = s.supply := choose_supply _

/-! ## The second step (R36 to R38) -/

theorem exec_secondStep (s : State) :
    exec .secondStep s = atAnyTime s fun u => if u.calendar.stepDue then u.stepSecond else u := rfl

theorem exec_secondStep_none {s : State} (h : s.calendar.stepDue = false) :
    exec .secondStep s = .next (if s.supply.operating then s.choose else s) := by
  simp [exec_secondStep, atAnyTime, h]

theorem exec_secondStep_due {s : State} (h : s.calendar.stepDue = true) :
    exec .secondStep s = .next (if s.supply.operating then s.stepSecond.choose else s.stepSecond) := by
  simp [exec_secondStep, atAnyTime, h]

/-- The calendar at the next second, its flag still 1 (R36). -/
def steppedCalendar (c : Calendar) : Calendar :=
  { time := nextSecond c.time, valid := true, phase := 0, stepDue := false }

/-- The new second is evaluated. -/
theorem stepSecond_evaluates {s : State} (hop : s.supply.operating = true) (hv : s.calendar.valid = true)
    (hlast : s.calendar.time ≠ lastSecond) :
    s.stepSecond = (s.setCalendar (steppedCalendar s.calendar)).evaluate (nextSecond s.calendar.time) := by
  simp [State.stepSecond, Calendar.step, steppedCalendar, hop, hv, hlast]

/-- The second only counts: in a stopped part, and where the flag is or becomes 0. -/
theorem stepSecond_counts {s : State}
    (h : s.supply.operating = false ∨ s.calendar.valid = false ∨ s.calendar.time = lastSecond) :
    s.stepSecond = s.setCalendar s.calendar.step := by
  unfold State.stepSecond
  refine if_neg ?_
  obtain h | h | h := h <;> simp [Calendar.step, h]

/-! ## TIME_SET (R39 to R43) -/

/-- A real time's payload reads back as the time. -/
theorem timeFields_timeBytes {t : CalTime} (hr : t.real = true) : timeFields (timeBytes t) = t := by
  obtain ⟨-, hy, -, hm, -, hd, hh, hmin, hs⟩ := (real_iff t).1 hr
  have hlen := monthLength_le t.year t.month
  obtain ⟨year, month, day, hour, minute, second⟩ := t
  dsimp only at *
  simp [timeFields, timeBytes, bigEndian, u16, u8, byteOf]
  omega

theorem timeChecks_real {t : CalTime} (hr : t.real = true) : firstBad (timeChecks t) = none := by
  obtain ⟨hy, hy', hm, hm', hd, hd', hh, hmin, hs⟩ := (real_iff t).1 hr
  simp [firstBad, timeChecks, within, *]

/-- TIME_SET of a real time is accepted and sets it. -/
theorem exec_timeSet_real {s : State} (tag : Byte) {t : CalTime} (hl : Listening s) (hr : t.real = true) :
    exec (.timeSet tag (timeBytes t)) s = .next ((s.setTime t).answering 0x10 tag .ok []) := by
  have hanswer : blockAnswer .timeSet (timeBytes t) s = (s.setTime t).okWith [] := by
    simp [blockAnswer, doTimeSet, timeFields_timeBytes hr, timeChecks_real hr]
  have hexec := exec_request s .timeSet tag (timeBytes t) hl (by simp [timeBytes, bigEndian, lengthRight])
  rw [hanswer] at hexec
  exact hexec

theorem setTime_invalid {s : State} (t : CalTime) (hv : s.calendar.valid = false) :
    s.setTime t = (s.setCalendar (s.calendar.setTo t)).evaluate t := by
  simp [State.setTime, hv]

theorem setTime_catchUp {s : State} {t : CalTime} (hv : s.calendar.valid = true)
    (h1 : 1 ≤ secondsBetween s.calendar.time t) (h2 : secondsBetween s.calendar.time t ≤ 120) :
    s.setTime t =
      (s.setCalendar (s.calendar.setTo t)).catchUp (secondsBetween s.calendar.time t).toNat s.calendar.time := by
  simp [State.setTime, hv, h1, h2, Config.catchUpMax]

theorem setTime_again {s : State} {t : CalTime} (h : secondsBetween s.calendar.time t = 0) :
    s.setTime t = (s.setCalendar (s.calendar.setTo t)).evaluate t := by
  simp [State.setTime, h]

theorem setTime_jump {s : State} {t : CalTime} (hv : s.calendar.valid = true)
    (h : secondsBetween s.calendar.time t < 0 ∨ 120 < secondsBetween s.calendar.time t) :
    s.setTime t =
      ((s.setCalendar (s.calendar.setTo t)).raise
        (.timeJump (clampDelta (secondsBetween s.calendar.time t))
          (decide (0 < secondsBetween s.calendar.time t)))).evaluate t := by
  have hc : ¬ (1 ≤ secondsBetween s.calendar.time t ∧ secondsBetween s.calendar.time t ≤ 120) := by omega
  have h0 : secondsBetween s.calendar.time t ≠ 0 := by omega
  simp [State.setTime, hv, hc, h0, Config.catchUpMax]

theorem clampDelta_neg {d : Int} (h : d < 0) : clampDelta d = max d (-2147483648) := by
  unfold clampDelta; omega

theorem clampDelta_pos {d : Int} (h : 0 < d) : clampDelta d = min d 2147483647 := by
  unfold clampDelta; omega

/-- Whatever the delta, TIME_SET leaves the calendar at the time set, with no second step due (R40, R43). -/
theorem setTime_calendar (s : State) (t : CalTime) :
    (s.setTime t).calendar = { time := t, valid := true, phase := 0, stepDue := false } := by
  have hev (u : State) : (u.evaluate t).calendar = u.calendar := (touches_evaluate u t).same .calendar (by decide)
  have hcatch (n : Nat) (old : CalTime) (u : State) : (u.catchUp n old).calendar = u.calendar :=
    (touches_catchUp n old u).same .calendar (by decide)
  unfold State.setTime
  dsimp only
  split
  · simp [hev, Calendar.setTo]
  · split
    · simp [hcatch, Calendar.setTo]
    · split <;> simp [hev, Calendar.setTo]

theorem setTime_supply (s : State) (t : CalTime) : (s.setTime t).supply = s.supply :=
  (touches_setTime s t).same .supply (by decide)

/-- Settles O10, by the delta's five cases. -/
theorem timeSetEvaluatesByDelta : Obligations.TimeSetEvaluatesByDelta := by
  intro s tag t hl hr
  dsimp only
  have hexec := exec_timeSet_real tag hl hr
  refine ⟨fun hv => ?_, fun hv => ⟨fun h1 h2 => ?_, fun h0 => ?_,
    fun (hneg : secondsBetween s.calendar.time t < 0) => ?_,
    fun (hpos : 120 < secondsBetween s.calendar.time t) => ?_⟩⟩
  · exact hexec.trans (by rw [setTime_invalid t hv]; rfl)
  · exact hexec.trans (by rw [setTime_catchUp hv h1 h2]; rfl)
  · exact hexec.trans (by rw [setTime_again h0]; rfl)
  · have hnot : decide (0 < secondsBetween s.calendar.time t) = false := decide_eq_false (Int.lt_asymm hneg)
    exact hexec.trans (by rw [setTime_jump hv (.inl hneg), clampDelta_neg hneg, hnot]; rfl)
  · have h0 : 0 < secondsBetween s.calendar.time t := Int.lt_trans (by decide) hpos
    exact hexec.trans (by rw [setTime_jump hv (.inr hpos), clampDelta_pos h0, decide_eq_true h0]; rfl)

/-- Settles O11: with a step due the calendar advances, and an accepted TIME_SET leaves none due. -/
theorem secondStepAdvancesAndEvaluates : Obligations.SecondStepAdvancesAndEvaluates := by
  refine ⟨fun s =>
    ⟨fun hdue => ⟨fun hop hv hlast => ?_, fun hop hv => ?_, fun hop hlast => ⟨?_, ?_⟩, fun hop => ?_⟩,
      fun hdue => ⟨fun hop => ?_, fun hop => ?_⟩⟩, fun s tag t hl hr => ?_⟩
  · rw [exec_secondStep_due hdue, if_pos hop, stepSecond_evaluates hop hv hlast]; rfl
  · rw [exec_secondStep_due hdue, if_pos hop, stepSecond_counts (.inr (.inl hv))]
    simp only [Calendar.step, hv, Bool.false_and]; rfl
  · have hcal : s.calendar.step =
        { time := nextSecond s.calendar.time, valid := false, phase := 0, stepDue := false } := by
      simp [Calendar.step, hlast, lastSecond]
    rw [exec_secondStep_due hdue, if_pos hop, stepSecond_counts (.inr (.inr hlast)), hcal]; rfl
  · rw [hlast]; rfl
  · rw [exec_secondStep_due hdue, if_neg (by simp [hop]), stepSecond_counts (.inl hop)]; rfl
  · rw [exec_secondStep_none hdue, if_pos hop]
  · rw [exec_secondStep_none hdue, if_neg (by simp [hop])]
  · have hcal : ((s.setTime t).answering 0x10 tag .ok []).calendar =
        { time := t, valid := true, phase := 0, stepDue := false } := by
      rw [answering_calendar, setTime_calendar]
    refine ⟨_, exec_timeSet_real tag hl hr, hcal, ?_⟩
    have hop : ((s.setTime t).answering 0x10 tag .ok []).supply.operating = true := by
      rw [answering_supply, setTime_supply]; exact hl.1
    rw [exec_secondStep_none (by rw [hcal]), if_pos hop]
    exact congrArg _ (choose_choose _)

/-! ## Removals and the shadows after them (R82, R120) -/

/-- The last entry of a bell that a removal leaves. -/
theorem getLast?_remaining {queue ahead behind : List StrikeEntry} {e : StrikeEntry} {gone : StrikeEntry → Bool}
    {b : Bell} (hq : queue = ahead ++ e :: behind) (hb : e.bell = b) (he : gone e = false)
    (hbehind : ∀ x ∈ behind, x.bell = b → gone x = true) :
    ((queue.filter fun x => !gone x).filter fun x => decide (x.bell = b)).getLast? = some e := by
  have hnone : ((behind.filter fun x => !gone x).filter fun x => decide (x.bell = b)) = [] := by
    simp only [List.filter_filter, List.filter_eq_nil_iff]
    intro x hx
    by_cases h : x.bell = b <;> simp [h, hbehind x hx]
  simp [hq, List.filter_append, hb, he, hnone]

theorem filter_remaining_nil {queue : List StrikeEntry} {gone : StrikeEntry → Bool} {b : Bell}
    (h : ∀ x ∈ queue, x.bell = b → gone x = true) :
    ((queue.filter fun x => !gone x).filter fun x => decide (x.bell = b)) = [] := by
  simp only [List.filter_filter, List.filter_eq_nil_iff]
  intro x hx
  by_cases hb : x.bell = b <;> simp [hb, h x hx]

theorem mem_bellsLosing {s : State} {gone : StrikeEntry → Bool} {b : Bell} :
    b ∈ s.bellsLosing gone ↔ ∃ e ∈ s.queue, e.bell = b ∧ gone e = true := by
  simp only [State.bellsLosing, List.mem_map, List.mem_filter]
  exact ⟨fun ⟨e, ⟨hq, hg⟩, hb⟩ => ⟨e, hq, hb, hg⟩, fun ⟨e, hq, hb, hg⟩ => ⟨e, ⟨hq, hg⟩, hb⟩⟩

theorem shadowAfterRemoval_entry {u : State} {b : Bell} {e : StrikeEntry}
    (h : (u.queue.filter fun x => decide (x.bell = b)).getLast? = some e) :
    u.shadowAfterRemoval b = e.earliest + e.width + u.bells[b].config.recovery := by
  simp only [State.shadowAfterRemoval, h]

section
variable {u : State} {b : Bell} (hnil : (u.queue.filter fun x => decide (x.bell = b)) = [])
include hnil

theorem shadowAfterRemoval_firing {p : Stb} (h : u.channels[b].state = .firing) (hp : u.channels[b].pulseEnd = some p) :
    u.shadowAfterRemoval b = p + u.bells[b].config.recovery := by
  simp only [State.shadowAfterRemoval, hnil, List.getLast?_nil, h, hp, Option.getD_some]

theorem shadowAfterRemoval_recovering (h : u.channels[b].state = .recovering) :
    u.shadowAfterRemoval b = u.channels[b].recoveryEnd := by
  simp only [State.shadowAfterRemoval, hnil, List.getLast?_nil, h]

theorem shadowAfterRemoval_free (hf : u.channels[b].state ≠ .firing) (hr : u.channels[b].state ≠ .recovering) :
    u.shadowAfterRemoval b = u.stb := by
  simp only [State.shadowAfterRemoval, hnil, List.getLast?_nil]

end

/-- A flush takes the entries out and sets the shadows by R120, and nothing else. -/
theorem flush_shadowsAfter (s : State) (gone : StrikeEntry → Bool) :
    ∃ shadow, ShadowsAfter s s.channels gone shadow
      ∧ s.flush gone =
        { s with queue := s.queue.filter fun e => !gone e, planner := { s.planner with shadow := shadow } } := by
  obtain ⟨shadow, hflush, hshadow⟩ := State.resetShadows_eq (s.bellsLosing gone) (s.removeEntries gone)
  refine ⟨shadow, fun b => ⟨fun hkept => ?_, fun lost hq hb hg => ?_⟩, hflush⟩
  · have hnot : b ∉ s.bellsLosing gone := by
      rw [mem_bellsLosing]
      rintro ⟨e, hq, hb, hg⟩
      simp [hkept e hq hb] at hg
    exact (hshadow b).trans (if_neg hnot)
  · rw [hshadow b, if_pos (mem_bellsLosing.2 ⟨lost, hq, hb, hg⟩)]
    refine ⟨fun ahead e behind hsplit heb he hbehind => ?_, fun hall => ?_⟩
    · exact shadowAfterRemoval_entry (getLast?_remaining hsplit heb he hbehind)
    · have hnil : (s.removeEntries gone).queue.filter (fun x => decide (x.bell = b)) = [] := filter_remaining_nil hall
      exact ⟨fun p => shadowAfterRemoval_firing hnil,
        shadowAfterRemoval_recovering hnil, shadowAfterRemoval_free hnil⟩

/-- The engine takes entries out and stops the planner, which gives up a stall; an IDLE planner stays as it is. -/
theorem flush_plannerStop_shadowsAfter (s : State) (gone : StrikeEntry → Bool) :
    ∃ shadow, ShadowsAfter s s.channels gone shadow
      ∧ (s.flush gone).plannerStop =
        { s with
          queue := s.queue.filter fun e => !gone e
          planner :=
            { s.planner with
              state := if s.planner.state = .idle then .idle else .stopped
              stall := if s.planner.state = .idle then s.planner.stall else none
              shadow := shadow } } := by
  obtain ⟨shadow, hshadow, hflush⟩ := flush_shadowsAfter s gone
  refine ⟨shadow, hshadow, ?_⟩
  rw [hflush]
  unfold State.plannerStop
  by_cases hidle : s.planner.state = .idle
  · rw [if_pos hidle, if_pos hidle, if_pos hidle, ← hidle]
  · rw [if_neg hidle, if_neg hidle, if_neg hidle]
    rfl

/-! ## Takes (R74, R75) -/

/-- The stint of a cue taken from the list starts from the saved context, else from the beginning. -/
theorem startStint_taken (s : State) (c : Cue) :
    s.startStint { c with started := true } c.saved =
      { s with engine := enginePlays s (taken s c), planner := stintPlanner s c s.planner.shadow } := by
  obtain ⟨id, source, action, priority, mode, maxWait, entryTime, started, saved, counters⟩ := c
  cases action <;> cases saved <;> rfl

theorem takeHead_cons {s : State} {c : Cue} {rest : List Cue} (h : s.cues.waiting = c :: rest) :
    s.takeHead =
      ({ s with
          cues := { s.cues with waiting := rest }
          engine := enginePlays s (taken s c), planner := stintPlanner s c s.planner.shadow },
        firstTake c) := by
  unfold State.takeHead
  rw [h]
  dsimp only
  rw [startStint_taken]
  rfl

/-! ## Preemption (R79 to R82) -/

theorem futureContext_none {s : State} (h : ∀ c ∈ s.planner.log, c.sound ≤ s.stb) : s.futureContext = none := by
  simpa [State.futureContext, List.find?_eq_none] using h

/-- The earliest logged context in the future follows those that have come due. -/
theorem futureContext_some {s : State} {older newer : List LogContext} {point : LogContext}
    (hlog : s.planner.log = older ++ point :: newer) (holder : ∀ c ∈ older, c.sound ≤ s.stb)
    (hpoint : s.stb < point.sound) : s.futureContext = some point := by
  have hnone : (older.find? fun c => decide (s.stb < c.sound)) = none := by
    simpa [List.find?_eq_none] using holder
  simp [State.futureContext, hlog, List.find?_append, hnone, hpoint]

/-- An entry of a phrase or a later one is one of its cue. -/
theorem ofCue_and_ofCueFrom (e : StrikeEntry) (cueId phrase : Nat) :
    (e.ofCue cueId && e.ofCueFrom cueId phrase) = e.ofCueFrom cueId phrase := by
  unfold StrikeEntry.ofCue StrikeEntry.ofCueFrom
  cases e.origin <;> simp

/-- The engine that has begun to yield at this STB, with the yield point chosen or none (R82). -/
def yieldingEngine (s : State) (p : Performance) (point : Option LogContext) : Engine :=
  { s.engine with
    state := .yielding
    current := some
      { p with yield := some { start := s.stb, deadline := s.stb + 1000 * s.engine.breathLimit, point := point } } }

theorem startYield_without {s : State} {p : Performance} (hcur : s.engine.current = some p)
    (h : s.futureContext = none) : s.startYield = s.setEngine (yieldingEngine s p none) := by
  simp only [State.startYield, hcur, h, yieldingEngine]

theorem startYield_at {s : State} {p : Performance} {point : LogContext} (hcur : s.engine.current = some p)
    (h : s.futureContext = some point) :
    s.startYield =
      ((s.setEngine (yieldingEngine s p (some point))).flush fun e =>
        e.ofCueFrom p.cue.id point.phrase).plannerStop := by
  simp only [State.startYield, hcur, h, yieldingEngine]

/-- A performance in PLAYING yields. -/
theorem startYield_preempts {s : State} {p : Performance} (hcur : s.engine.current = some p)
    (hplaying : s.engine.state = .playing) : Preempts s s.startYield p := by
  refine ⟨fun _ => ⟨fun hdue => ?_, fun older point newer hlog holder hpoint => ?_⟩,
    fun hstarting => absurd (hplaying.symm.trans hstarting) (by decide)⟩
  · exact startYield_without hcur (futureContext_none hdue)
  · rw [startYield_at hcur (futureContext_some hlog holder hpoint)]
    simp only [ofCue_and_ofCueFrom]
    exact flush_plannerStop_shadowsAfter (s.setEngine (yieldingEngine s p (some point))) _

/-- A performance in STARTING is displaced. -/
theorem displace_preempts {s : State} {p : Performance} (hcur : s.engine.current = some p)
    (hstarting : s.engine.state = .starting) : Preempts s s.displace p := by
  refine ⟨fun hplaying => absurd (hstarting.symm.trans hplaying) (by decide), fun _ head rest hwaiting => ?_⟩
  obtain ⟨shadow, hshadow, hstop⟩ := flush_plannerStop_shadowsAfter s fun e => e.ofCue p.cue.id
  refine ⟨shadow, hshadow, ?_⟩
  simp only [State.displace, hcur, hstop]
  rw [takeHead_cons (by exact hwaiting)]
  rfl

/-- The arrival of a strictly better cue at a performance that is not FIRM (R79). -/
theorem arrival_preempts {s : State} {p : Performance} {priority : Nat} (hcur : s.engine.current = some p)
    (hbetter : priority < p.cue.priority) (hmode : p.cue.mode ≠ .firm) : Preempts s (s.arrival priority) p := by
  cases hstate : s.engine.state with
  | starting =>
    have harrival : s.arrival priority = s.displace := by simp [State.arrival, hstate, hcur, hbetter, hmode]
    exact harrival ▸ displace_preempts hcur hstate
  | playing =>
    have harrival : s.arrival priority = s.startYield := by simp [State.arrival, hstate, hcur, hbetter, hmode]
    exact harrival ▸ startYield_preempts hcur hstate
  | idle | yielding | draining | held => exact ⟨by simp [hstate], by simp [hstate]⟩

/-! ## Admission (R65 to R67) -/

/-- An offered cue as it is admitted: with the id it receives and the STB as its entry time (R65). -/
def admitted (s : State) (c : Cue) : Cue := { c with id := s.newId, entryTime := s.stb }

/-- An admitted cue joins the list, and its entry's latch is set, before the engine is told. -/
theorem enterList_eq (s : State) (c : Cue) :
    s.enterList c = ((joinedList s (admitted s c)).latch c.source).arrival c.priority := by
  unfold State.enterList
  cases h : c.action <;> simp [State.referAction, State.addReference, joinedList, referredTo, admitted, h] <;> rfl

theorem offer_of_room {s : State} (c : Cue) (h : s.cues.waiting.length < 16) :
    s.offer c = some (s.enterList c, s.newId) := by
  have hroom : s.makeRoom c.priority = some s := if_pos h
  simp only [State.offer, hroom]

/-- With a full list a last cue of strictly worse priority is evicted. -/
theorem offer_of_eviction {s : State} {c last : Cue} {front : List Cue} (h : s.cues.waiting = front ++ [last])
    (hfull : 16 ≤ s.cues.waiting.length) (hbetter : c.priority < last.priority) :
    let u := State.endCue { s with cues := { s.cues with waiting := front } } last .evicted
    s.offer c = some (u.enterList c, u.newId) := by
  have hroom : s.makeRoom c.priority =
      some (State.endCue { s with cues := { s.cues with waiting := front } } last .evicted) := by
    have hnot : ¬ s.cues.waiting.length < Config.cueListMax := Nat.not_lt.2 hfull
    have hlast : s.cues.waiting.getLast? = some last := by simp [h]
    have hfront : s.cues.waiting.dropLast = front := by simp [h]
    simp only [State.makeRoom, if_neg hnot, hlast, if_pos hbetter, hfront]
    rfl
  simp only [State.offer, hroom]

/-! ## PLAY (R71) -/

theorem actionReady_of_ready {s : State} {a : ActionSpec}
    (h : ∀ slot beat repeats, a = .score slot beat repeats → s.scores.slots[slot].state = .ready) :
    s.actionReady a = true := by
  cases a with
  | score slot beat repeats => exact decide_eq_true (h slot beat repeats rfl)
  | count => rfl

/-- The cue that a PLAY offers. -/
def offeredByPlay (s : State) (p : List Byte) : Cue :=
  newCue .direct (actionFields p 0).action s.calendar.time (actionFields p 0).priority
    (Mode.ofCode (actionFields p 0).mode) (actionFields p 0).maxWait

theorem action_eq_madeAction (a : ActionSpec) (t : CalTime) : a.action t = madeAction a t := by
  cases a with
  | score => rfl
  | count bell velocity interval rule => cases rule <;> rfl

/-- The cue admitted from a PLAY is the one the statements name, at the admitting state's id and STB. -/
theorem admitted_offeredByPlay (s u : State) (p : List Byte) (h : u.stb = s.stb) :
    admitted u (offeredByPlay s p) = playCue s p u.newId := by
  simp only [admitted, offeredByPlay, newCue, playCue, action_eq_madeAction, h]
  rfl

theorem firstBad_of_all {checks : List Bool} (h : checks.all id = true) : firstBad checks = none := by
  simpa [firstBad] using h

/-- A PLAY that passes its first three checks and is admitted answers OK with the id assigned. -/
theorem exec_play_of_offer {s t : State} {tag : Byte} {p : List Byte} {cueId : Nat} (hl : Listening s)
    (hp : PlayPasses s p) (hoffer : s.offer (offeredByPlay s p) = some (t, cueId)) :
    exec (.play tag p) s = .next (t.answering 0x40 tag .ok [byteOf cueId]) := by
  obtain ⟨hlength, hchecks, hslot, hclock⟩ := hp
  have hready : s.actionReady (actionFields p 0).action = true := actionReady_of_ready hslot
  have htime : ((actionFields p 0).action.readsClock && !s.calendar.valid) = false := by
    cases hc : (actionFields p 0).action.readsClock with
    | false => rfl
    | true => simp [hclock hc]
  have hanswer : blockAnswer .play p s = t.okWith [byteOf cueId] := by
    simp only [offeredByPlay] at hoffer
    simp [blockAnswer, doPlay, firstBad_of_all hchecks, hready, htime, hoffer]
  have hexec := exec_request s .play tag p hl (by simp [lengthRight, hlength])
  rw [hanswer] at hexec
  exact hexec

/-- An admitted PLAY of better priority preempts: `u` is the state in which there is room. -/
theorem exec_play_preempts {s u : State} {tag : Byte} {bytes : List Byte} {p : Performance} (hl : Listening s)
    (hp : PlayPasses s bytes)
    (hoffer : s.offer (offeredByPlay s bytes) = some (u.enterList (offeredByPlay s bytes), u.newId))
    (hstb : u.stb = s.stb) (hcur : u.engine.current = some p) (hbetter : u8 bytes 1 < p.cue.priority)
    (hmode : p.cue.mode ≠ .firm) :
    ∃ t, Preempts (joinedList u (playCue s bytes u.newId)) t p
      ∧ exec (.play tag bytes) s = .next (t.answering 0x40 tag .ok [byteOf u.newId]) := by
  refine ⟨_, arrival_preempts hcur hbetter hmode, ?_⟩
  rw [exec_play_of_offer hl hp hoffer, enterList_eq, admitted_offeredByPlay s u bytes hstb]
  rfl

/-! ## A schedule entry of an evaluated second (R50 to R54) -/

/-- An entry fires at an evaluated second: it is enabled, its pattern matches, and its stamp does not name this
minute. -/
def Fires (t : CalTime) (e : SchedEntry) : Prop :=
  e.enabled = true ∧ e.pattern.matches t = true ∧ e.stamp ≠ some (minuteOf t)

theorem fires_iff {t : CalTime} {e : SchedEntry} :
    Fires t e ↔ (e.enabled && e.pattern.matches t && decide (e.stamp ≠ some (stampOf t))) = true := by
  simp only [Fires, Bool.and_eq_true, decide_eq_true_eq, and_assoc]
  rfl

theorem walkEntry_of_not_fires {s : State} {t : CalTime} {i : EntryNo}
    (h : ∀ e, s.schedule[i] = some e → ¬ Fires t e) :
    State.walkEntry t s i = s := by
  cases he : s.schedule[i] with
  | none => simp only [State.walkEntry, he]
  | some e =>
    simp only [State.walkEntry, he]
    exact if_neg fun hc => h e he (fires_iff.2 hc)

/-- Entries that do not fire leave a walk as it stands. -/
theorem foldl_walkEntry_of_not_fires {s : State} {t : CalTime} {l : List EntryNo}
    (h : ∀ i ∈ l, ∀ e, s.schedule[i] = some e → ¬ Fires t e) : l.foldl (State.walkEntry t) s = s := by
  induction l with
  | nil => rfl
  | cons i l ih =>
    rw [List.foldl_cons, walkEntry_of_not_fires (h i List.mem_cons_self)]
    exact ih fun j hj => h j (List.mem_cons_of_mem _ hj)

/-- A walk in which one entry alone fires, and its fire changes no other entry, is that entry's fire. -/
theorem evaluate_of_fires_alone {s : State} {t : CalTime} {i : EntryNo}
    (halone : ∀ j x, j ≠ i → s.schedule[j] = some x → ¬ Fires t x)
    (hothers : ∀ j : EntryNo, j ≠ i → (State.walkEntry t s i).schedule[j] = s.schedule[j]) :
    s.evaluate t = State.walkEntry t s i := by
  obtain ⟨before, after, hsplit⟩ := List.append_of_mem (List.mem_finRange i)
  have hnodup := List.nodup_finRange 96
  rw [hsplit, List.nodup_append, List.nodup_cons] at hnodup
  obtain ⟨-, ⟨hafter, -⟩, hdisjoint⟩ := hnodup
  have hbefore : i ∉ before := fun hi => hdisjoint i hi i List.mem_cons_self rfl
  have hne {j : EntryNo} {l : List EntryNo} (hi : i ∉ l) (hj : j ∈ l) : j ≠ i := fun h => hi (h ▸ hj)
  rw [State.evaluate, hsplit, List.foldl_append, List.foldl_cons,
    foldl_walkEntry_of_not_fires fun j hj x => halone j x (hne hbefore hj)]
  exact foldl_walkEntry_of_not_fires fun j hj x hx =>
    halone j x (hne hafter hj) ((hothers j (hne hafter hj)).symm.trans hx)

/-- The cue of an entry's fire, once it is admitted. -/
theorem admitted_scheduled (s : State) (i : EntryNo) (e : SchedEntry) (t : CalTime) :
    admitted s (newCue (.schedule i) e.action t e.priority e.mode e.maxWait) =
      { scheduledCue i e t with id := s.newId, entryTime := s.stb } := by
  simp only [admitted, newCue, scheduledCue]
  cases e.action <;> rfl

theorem fireEntry_of_room {s : State} (i : EntryNo) {e : SchedEntry} (t : CalTime) (hlatch : e.latched = false)
    (hready : s.actionReady e.action = true) (hroom : s.cues.waiting.length < 16) :
    s.fireEntry i e t = s.enterList (newCue (.schedule i) e.action t e.priority e.mode e.maxWait) := by
  simp [State.fireEntry, hlatch, hready, offer_of_room _ hroom]

theorem latch_of_entry {s : State} {i : EntryNo} {e : SchedEntry} (h : s.schedule[i] = some e) :
    s.latch (.schedule i) = s.setEntry i (some { e with latched := true }) := by
  simp only [State.latch, h]

/-- The state in which a fired entry's cue has entered, before the engine is told: the cue in the list, and the entry
with this minute's stamp, latched (R51, R54). -/
def firedState (s : State) (i : EntryNo) (e : SchedEntry) (t : CalTime) : State :=
  { joinedList s { scheduledCue i e t with id := s.newId, entryTime := s.stb } with
    schedule := s.schedule.set i (some { e with stamp := some (minuteOf t), latched := true }) }

/-- An entry as the walk stamps it. -/
def stampedEntry (e : SchedEntry) (t : CalTime) : SchedEntry := { e with stamp := some (stampOf t) }

theorem walkEntry_of_fires {s : State} {t : CalTime} {i : EntryNo} {e : SchedEntry} (he : s.schedule[i] = some e)
    (hfires : Fires t e) :
    State.walkEntry t s i = (s.setEntry i (some (stampedEntry e t))).fireEntry i (stampedEntry e t) t := by
  simp only [State.walkEntry, he]
  exact if_pos (fires_iff.1 hfires)

theorem enterList_stamped (s : State) (i : EntryNo) (e : SchedEntry) (t : CalTime) :
    (s.setEntry i (some (stampedEntry e t))).enterList (newCue (.schedule i) e.action t e.priority e.mode e.maxWait) =
      (firedState s i e t).arrival e.priority := by
  have hentry : (s.setEntry i (some (stampedEntry e t))).schedule[i] = some (stampedEntry e t) :=
    Vector.getElem_set_self ..
  have hset : (s.schedule.set i (some (stampedEntry e t))).set i (some { stampedEntry e t with latched := true }) =
      s.schedule.set i (some { e with stamp := some (minuteOf t), latched := true }) := Vector.set_set ..
  rw [enterList_eq, admitted_scheduled, firedState, ← hset]
  exact congrArg (State.arrival · e.priority) (latch_of_entry hentry)

/-- An entry that fires, with its slot READY and room in the list, enters its cue (R51, R54). -/
theorem walkEntry_enters {s : State} {t : CalTime} {i : EntryNo} {e : SchedEntry} (he : s.schedule[i] = some e)
    (hfires : Fires t e) (hlatch : e.latched = false)
    (hslot : ∀ slot beat repeats, e.action = .score slot beat repeats → s.scores.slots[slot].state = .ready)
    (hroom : s.cues.waiting.length < 16) : State.walkEntry t s i = (firedState s i e t).arrival e.priority :=
  (walkEntry_of_fires he hfires).trans
    ((fireEntry_of_room (s := s.setEntry i (some (stampedEntry e t))) (e := stampedEntry e t) i t hlatch
      (actionReady_of_ready hslot) hroom).trans (enterList_stamped s i e t))

/-- A second at which one entry alone fires is that entry's cue entering. -/
theorem evaluate_enters {s : State} {t : CalTime} {i : EntryNo} {e : SchedEntry} (he : s.schedule[i] = some e)
    (hfires : Fires t e) (hlatch : e.latched = false)
    (hslot : ∀ slot beat repeats, e.action = .score slot beat repeats → s.scores.slots[slot].state = .ready)
    (hroom : s.cues.waiting.length < 16) (halone : ∀ j x, j ≠ i → s.schedule[j] = some x → ¬ Fires t x) :
    s.evaluate t = (firedState s i e t).arrival e.priority := by
  have hwalk := walkEntry_enters he hfires hlatch hslot hroom
  rw [evaluate_of_fires_alone halone, hwalk]
  intro j hj
  have hsame : ((firedState s i e t).arrival e.priority).schedule = (firedState s i e t).schedule :=
    (touches_arrival _ e.priority).same .schedule (by decide)
  rw [hwalk, hsame]
  exact Vector.getElem_set_ne i.isLt j.isLt fun h => hj (Fin.ext h.symm)

/-- Settles O26: the arrival preempts by the engine's state, and PLAY and a fire alone of its second end in
an arrival. -/
theorem preemptionYieldsOrDisplaces : Obligations.PreemptionYieldsOrDisplaces := by
  refine ⟨fun s p priority => arrival_preempts,
    fun s tag bytes p hl hp hcur _ hbetter hmode => ⟨fun hroom => ?_, fun front last hw hfull hlast => ?_⟩,
    fun s i e p hop hdue hv hlast hcur _ hbetter hmode hroom => fun he hfires hlatch hslot halone => ?_⟩
  · exact exec_play_preempts hl hp (offer_of_room _ hroom) rfl hcur hbetter hmode
  · exact exec_play_preempts hl hp (offer_of_eviction hw hfull hlast) (by rw [State.endCue_eq])
      (by rw [State.endCue_eq]; exact hcur) hbetter hmode
  · refine ⟨_, arrival_preempts hcur hbetter hmode, ?_⟩
    have hwalk := evaluate_enters (s := s.setCalendar (steppedCalendar s.calendar)) he hfires hlatch hslot hroom halone
    rw [exec_secondStep_due hdue, if_pos hop, stepSecond_evaluates hop hv hlast, hwalk]
    rfl

end Sys2Proof.CalendarClock
end

section
/-! SUPPORT. The family of the Schedule Table: what becomes of a schedule entry that fires, and what the requests that
write, enable and clear an entry answer. -/

namespace Sys2Proof.ScheduleTable

open Sys2Proof.Machine Sys2Proof.CalendarClock

/-! ## The fire of an entry (R51 to R54) -/

/-- The cue of an entry's fire is the one the statements name. -/
theorem newCue_eq_scheduledCue (i : EntryNo) (e : SchedEntry) (t : CalTime) :
    newCue (.schedule i) e.action t e.priority e.mode e.maxWait = scheduledCue i e t := by
  simp only [newCue, scheduledCue]
  cases e.action <;> rfl

/-- With a full list a cue that is not of strictly better priority than the last is refused (R67). -/
theorem offer_of_refusal {s : State} {c last : Cue} {front : List Cue} (h : s.cues.waiting = front ++ [last])
    (hfull : 16 ≤ s.cues.waiting.length) (hworse : last.priority ≤ c.priority) : s.offer c = none := by
  have hroom : s.makeRoom c.priority = none := by
    have hnot : ¬ s.cues.waiting.length < Config.cueListMax := Nat.not_lt.2 hfull
    have hlast : s.cues.waiting.getLast? = some last := by simp [h]
    simp only [State.makeRoom, if_neg hnot, hlast, if_neg (Nat.not_lt.2 hworse)]
  simp only [State.offer, hroom]

theorem fireEntry_of_latched {s : State} (i : EntryNo) {e : SchedEntry} (t : CalTime) (h : e.latched = true) :
    s.fireEntry i e t = s.raise (.fireSkipped i .latched) := if_pos h

theorem fireEntry_of_noScore {s : State} (i : EntryNo) {e : SchedEntry} (t : CalTime) (hlatch : e.latched = false)
    (h : s.actionReady e.action = false) : s.fireEntry i e t = s.raise (.fireSkipped i .noScore) := by
  simp [State.fireEntry, hlatch, h]

section
variable {s : State} (i : EntryNo) {e : SchedEntry} (t : CalTime) (hlatch : e.latched = false)
  (hready : s.actionReady e.action = true)
include hlatch hready

theorem fireEntry_of_refused (h : s.offer (scheduledCue i e t) = none) :
    s.fireEntry i e t = s.raise (.fireSkipped i .listFull) := by
  simp [State.fireEntry, hlatch, hready, newCue_eq_scheduledCue, h]

theorem fireEntry_of_admitted {u : State} {id : Nat} (h : s.offer (scheduledCue i e t) = some (u, id)) :
    s.fireEntry i e t = u := by
  simp [State.fireEntry, hlatch, hready, newCue_eq_scheduledCue, h]

end

/-- Settles O13, by the outcomes of the fire, each in the state that already carries the stamp. -/
theorem matchingEntryHasOneOutcome : Obligations.MatchingEntryHasOneOutcome := by
  intro s t i e he
  refine ⟨fun hidle => ?_, fun hon hmatch hstamp => ?_⟩
  · refine walkEntry_of_not_fires fun x hx ⟨hon, hmatch, hstamp⟩ => ?_
    obtain rfl : e = x := Option.some.inj (he.symm.trans hx)
    obtain h | h | h := hidle
    · exact absurd (h.symm.trans hon) (by decide)
    · exact absurd (h.symm.trans hmatch) (by decide)
    · exact hstamp h
  · have hwalk := walkEntry_of_fires he ⟨hon, hmatch, hstamp⟩
    refine ⟨fun hlatch => hwalk.trans (fireEntry_of_latched i t hlatch),
      fun hlatch => ⟨fun slot beat repeats haction hslot => ?_, fun hslot => ?_⟩⟩
    · have hnotReady : s.actionReady e.action = false := by rw [haction]; exact decide_eq_false hslot
      exact hwalk.trans (fireEntry_of_noScore i t hlatch hnotReady)
    · have hready : s.actionReady e.action = true := actionReady_of_ready hslot
      have hadmitted {u : State} {id : Nat}
          (h : (s.setEntry i (some (stampedEntry e t))).offer (scheduledCue i e t) = some (u, id)) :
          State.walkEntry t s i = u :=
        hwalk.trans
          (fireEntry_of_admitted (s := s.setEntry i (some (stampedEntry e t))) (e := stampedEntry e t) i t hlatch hready
            h)
      refine ⟨fun hroom => ?_, fun front last hwaiting hfull => ⟨fun hworse => ?_, fun hbetter => ?_⟩⟩
      · exact hadmitted (offer_of_room _ hroom)
      · exact hwalk.trans (fireEntry_of_refused i t hlatch hready (offer_of_refusal hwaiting hfull hworse))
      · exact hadmitted (offer_of_eviction hwaiting hfull hbetter)

/-! ## Requests to the Schedule Table (R57 to R61) -/

/-- The command of a kind answers with what the owning block's answer says. -/
theorem exec_of_blockAnswer {s : State} {k : ReqKind} (tag : Byte) {p : List Byte} {a : Answer} (hl : Listening s)
    (hlength : lengthRight k p.length = true) (h : blockAnswer k p s = a) :
    exec (commandOf k.code tag p) s = .next (a.state.answering k.code tag a.status a.fields) :=
  h ▸ exec_request s k tag p hl hlength

/-- An entry's index survives its byte in a payload. -/
theorem u8_entryByte (i : EntryNo) (rest : List Byte) : u8 (byteOf i.val :: rest) 0 = i.val := by
  simp only [u8, byteOf, List.getD_cons_zero, BitVec.toNat_ofNat]
  omega

theorem u8_flag (b : Byte) (on : Bool) : u8 [b, if on then 1 else 0] 1 = if on then 1 else 0 := by
  cases on <;> rfl

theorem entry_ofNat (i : EntryNo) : Fin.ofNat 96 i.val = i := Fin.ext (Nat.mod_eq_of_lt i.isLt)

theorem keptStamp_eq_bind (o : Option SchedEntry) : keptStamp o = o.bind fun e => e.stamp := by
  cases o <;> rfl

theorem isLatched_of_unlatched {o : Option SchedEntry} (h : ∀ e, o = some e → e.latched = false) :
    isLatched o = false := by
  cases o with
  | none => rfl
  | some e => exact h e rfl

theorem isLatched_of_latched {o : Option SchedEntry} {e : SchedEntry} (he : o = some e) (h : e.latched = true) :
    isLatched o = true := by
  rw [he]; exact h

/-- The entry that a SCHED_WRITE leaves, with the stamp it keeps (R58). -/
def writtenEntry (p : List Byte) (stamp : Option Stamp) : SchedEntry :=
  { enabled := decide (u8 p 1 = 1), latched := false, stamp := stamp, pattern := patternOf p, priority := u8 p 10
    mode := Mode.ofCode (u8 p 11), maxWait := u16 p 12, action := (actionFields p 9).action }

/-- With every field in range the latch alone decides a SCHED_WRITE (R57, R58). -/
theorem doSchedWrite_inRange {s : State} {p : List Byte} {i : EntryNo} (hchecks : (schedChecks p).all id = true)
    (hi : u8 p 0 = i.val) :
    doSchedWrite p s =
      if isLatched s.schedule[i] then s.refuse .busy
      else (s.setEntry i (some (writtenEntry p ((s.schedule[i]).bind fun e => e.stamp)))).okWith [] := by
  rw [← keptStamp_eq_bind]
  simp only [doSchedWrite, firstBad_of_all hchecks, hi, entry_ofNat]
  rfl

/-- The latch alone decides the SCHED_CLEAR of an index in range (R61). -/
theorem doSchedClear_inRange (s : State) (i : EntryNo) :
    doSchedClear [byteOf i.val] s =
      if isLatched s.schedule[i] then s.refuse .busy else (s.setEntry i none).okWith [] := by
  have hrange : i.val ≤ 95 := Nat.le_of_lt_succ i.isLt
  simp only [doSchedClear, u8_entryByte, entry_ofNat, hrange, not_true_eq_false, if_false]

/-- Whether the entry is DEFINED alone decides a SCHED_ENABLE with both fields in range (R60). -/
theorem doSchedEnable_inRange (s : State) (i : EntryNo) (on : Bool) :
    doSchedEnable [byteOf i.val, if on then 1 else 0] s =
      (s.schedule[i]).elim (s.refuse .notFound) fun e =>
        (s.setEntry i (some { e with enabled := on })).okWith [] := by
  have hrange : i.val ≤ 95 := Nat.le_of_lt_succ i.isLt
  have hchecks : firstBad [within 0 95 i.val, within 0 1 (if on then 1 else 0)] = none :=
    firstBad_of_all (by cases on <;> simp [within, hrange])
  have hflag : ((if on then 1 else 0 : Nat) == 1) = on := by cases on <;> rfl
  simp only [doSchedEnable, u8_entryByte, u8_flag, hchecks, entry_ofNat, hflag]
  cases s.schedule[i] <;> rfl

/-- Settles O17: each request's answer by the entry's latch, or by whether it is DEFINED. -/
theorem scheduleRequestsWriteEntries : Obligations.ScheduleRequestsWriteEntries := by
  intro s tag i hl
  refine ⟨fun p hlength hchecks hi => ⟨fun hunlatched => ?_, fun e he hlatched => ?_⟩,
    fun on => ⟨fun e he => ?_, fun he => ?_⟩, fun hunlatched => ?_, fun e he hlatched => ?_⟩
  · exact exec_of_blockAnswer (k := .schedWrite) tag hl (by simp [lengthRight, hlength])
      ((doSchedWrite_inRange hchecks hi).trans (if_neg (ne_true_of_eq_false (isLatched_of_unlatched hunlatched))))
  · exact exec_of_blockAnswer (k := .schedWrite) tag hl (by simp [lengthRight, hlength])
      ((doSchedWrite_inRange hchecks hi).trans (if_pos (isLatched_of_latched he hlatched)))
  · exact exec_of_blockAnswer (k := .schedEnable) tag hl rfl
      ((doSchedEnable_inRange s i on).trans (congrArg (Option.elim · _ _) he))
  · exact exec_of_blockAnswer (k := .schedEnable) tag hl rfl
      ((doSchedEnable_inRange s i on).trans (congrArg (Option.elim · _ _) he))
  · exact exec_of_blockAnswer (k := .schedClear) tag hl rfl
      ((doSchedClear_inRange s i).trans (if_neg (ne_true_of_eq_false (isLatched_of_unlatched hunlatched))))
  · exact exec_of_blockAnswer (k := .schedClear) tag hl rfl
      ((doSchedClear_inRange s i).trans (if_pos (isLatched_of_latched he hlatched)))

end Sys2Proof.ScheduleTable
end

section
/-! SUPPORT. The family of the Strike Queue and the Channel Dispatcher: the ends of pulses and recoveries, and the channel
test from its request to the start of its pulse or its wait deadline. -/

namespace Sys2Proof.ChannelDispatch

open Sys2Proof.Machine Sys2Proof.CalendarClock Sys2Proof.ScheduleTable

/-! ## Pulse and recovery ends (R136, R137) -/

theorem pulseEnding_iff {s : State} {b : Bell} {p : Stb} :
    s.pulseEnding b = some p ↔ s.channels[b].state = .firing ∧ s.channels[b].pulseEnd = some p ∧ p ≤ s.stb := by
  unfold State.pulseEnding
  split
  case h_1 q hfiring hq =>
    rw [Option.ite_none_right_eq_some, hfiring, hq]
    exact ⟨fun ⟨hdue, h⟩ => ⟨rfl, h, Option.some.inj h ▸ hdue⟩, fun ⟨_, h, hdue⟩ => ⟨Option.some.inj h ▸ hdue, h⟩⟩
  case h_2 hno => exact ⟨nofun, fun ⟨hfiring, hq, _⟩ => absurd hq (hno p hfiring)⟩

theorem pulseEnding_eq_none {s : State} {b : Bell}
    (h : ∀ p, s.channels[b].state = .firing → s.channels[b].pulseEnd = some p → s.stb < p) :
    s.pulseEnding b = none :=
  Option.eq_none_iff_forall_ne_some.2 fun p hp =>
    have ⟨hfiring, hend, hdue⟩ := pulseEnding_iff.1 hp
    Nat.not_le.2 (h p hfiring hend) hdue

theorem recovered_iff {s : State} {b : Bell} :
    s.recovered b = true ↔ s.channels[b].state = .recovering ∧ s.channels[b].recoveryEnd ≤ s.stb :=
  decide_eq_true_iff

section
variable {s : State} {b : Bell} (hop : s.supply.operating = true)
include hop

theorem exec_pulseEnd_ends {p : Stb} (h : s.pulseEnding b = some p) :
    exec (.pulseEnd b) s = .next (s.endPulse b p).choose := by
  simp only [exec, execPulseEnd, whenOperating_on _ _ hop, h]

theorem exec_pulseEnd_waits (h : s.pulseEnding b = none) : exec (.pulseEnd b) s = .next s.choose := by
  simp only [exec, execPulseEnd, whenOperating_on _ _ hop, h]

theorem exec_recoveryEnd :
    exec (.recoveryEnd b) s =
      .next
        (if s.recovered b then s.setChannel b { s.channels[b] with state := .ready } else s).choose :=
  whenOperating_on _ _ hop

end

/-- Settles O35, by the condition of each command's moment. -/
theorem pulseAndRecoveryEnd : Obligations.PulseAndRecoveryEnd := by
  intro s b hop
  refine ⟨fun p hfiring hend => ⟨fun hdue => ?_, fun hearly => ?_⟩, fun hother => ?_, fun hrecovering hdue => ?_,
    fun hnot => ?_⟩
  · exact exec_pulseEnd_ends hop (pulseEnding_iff.2 ⟨hfiring, hend, hdue⟩)
  · refine exec_pulseEnd_waits hop (pulseEnding_eq_none fun q _ hq => ?_)
    obtain rfl : p = q := Option.some.inj (hend.symm.trans hq)
    exact hearly
  · exact exec_pulseEnd_waits hop (pulseEnding_eq_none fun _ hfiring _ => absurd hfiring hother)
  · rw [exec_recoveryEnd hop, if_pos (recovered_iff.2 ⟨hrecovering, hdue⟩)]
    rfl
  · have hstays : ¬ s.recovered b = true := fun h =>
      have ⟨hrecovering, hdue⟩ := recovered_iff.1 h
      hnot.elim (· hrecovering) fun hearly => Nat.not_le.2 hearly hdue
    rw [exec_recoveryEnd hop, if_neg hstays]

/-! ## TEST_CHANNEL (R147, R155, R176, R177) -/

/-- A bell's index survives its byte in a payload. -/
theorem u8_bellByte (b : Bell) (rest : List Byte) : u8 (byteOf b.val :: rest) 0 = b.val := by
  simp only [u8, byteOf, List.getD_cons_zero, BitVec.toNat_ofNat]
  omega

theorem bell_ofNat (b : Bell) : Fin.ofNat 64 b.val = b := Fin.ext (Nat.mod_eq_of_lt b.isLt)

theorem sourcePresent_iff (e : Engine) : e.sourcePresent = true ↔ e.interlock = true ∨ e.fail = true := by
  simp only [Engine.sourcePresent, Bool.or_eq_true]

section
variable {s : State}

/-- With no cue current a removal's departures are counted nowhere. -/
theorem reportDrop_of_idle (e : StrikeEntry) (h : s.engine.current = none) : s.reportDrop e = s := by
  unfold State.reportDrop State.report
  cases e.origin with
  | performance id phrase => simp only [h]
  | direct => rfl

theorem foldl_reportDrop_of_idle (h : s.engine.current = none) :
    ∀ l : List StrikeEntry, l.foldl State.reportDrop s = s
  | [] => rfl
  | e :: l => by rw [List.foldl_cons, reportDrop_of_idle e h, foldl_reportDrop_of_idle h l]

/-- With no cue current a removal only takes the entries out. -/
theorem dropEntries_of_idle (gone : StrikeEntry → Bool) (h : s.engine.current = none) :
    s.dropEntries gone = s.removeEntries gone := by
  rw [State.dropEntries, foldl_reportDrop_of_idle h]

/-- The record of a test accepted for a bell (R177). -/
def acceptedTest (s : State) (b : Bell) : ChannelTest :=
  let config := s.bells[b].config
  { bell := b, phase := .waiting, acceptedAt := s.stb, deadline := s.stb + 1000, width := config.driveWidth
    cost := config.driveWidth * config.coilClass, windowLength := 2 * config.ceiling + 20
    earlyLimit := 8 * config.floor, pulseStart := none, pulseEnd := none, minSeen := false, observation := none
    result := none }

/-- The test formed, the bell's window abandoned and its channel TESTING, before its entries are dropped (R177). -/
def underTest (s : State) (b : Bell) : State :=
  { s with
    channels := s.channels.set b { s.channels[b] with state := .testing, prior := some s.channels[b].state }
    monitor := { s.monitor with windows := s.monitor.windows.set b none, test := some (acceptedTest s b) } }

theorem acceptTest_eq (b : Bell) :
    s.acceptTest b =
      let u := ((underTest s b).dropEntries fun e => e.onBell b).setShadow b s.stb
      u.setReservoir { u.reservoir with testDraw := some (b, (acceptedTest s b).cost) } := by
  rfl

theorem acceptTest_of_idle (b : Bell) (h : s.engine.current = none) :
    s.acceptTest b =
      { underTest s b with
        queue := s.queue.filter fun e => decide (e.bell ≠ b)
        planner := { s.planner with shadow := s.planner.shadow.set b s.stb }
        reservoir := { s.reservoir with testDraw := some (b, (acceptedTest s b).cost) } } := by
  have hkept : (fun e : StrikeEntry => !e.onBell b) = fun e => decide (e.bell ≠ b) :=
    funext fun e => decide_not.symm
  rw [acceptTest_eq, dropEntries_of_idle (s := underTest s b) _ h, State.removeEntries, hkept]
  rfl

end

/-- What a channel's state answers to a TEST_CHANNEL that no hold and no other work stands against (R176, R177). -/
def testAnswer (s : State) (b : Bell) : Answer :=
  match s.channels[b].state with
  | .absent => s.refuse .channelState
  | .firing | .recovering | .testing => s.refuse .busy
  | .disabled | .ready | .fault => { state := s.acceptTest b, status := .accepted, fields := [] }

/-- The checks of a TEST_CHANNEL for a bell, in their order (R176). -/
theorem doTestChannel_bell (s : State) (b : Bell) :
    doTestChannel [byteOf b.val] s =
      if s.engine.sourcePresent then s.refuse .held
      else if s.engine.state ≠ .idle ∨ s.monitor.test ≠ none then s.refuse .busy
      else testAnswer s b := by
  have hrange : b.val ≤ 63 := Nat.le_of_lt_succ b.isLt
  simp only [doTestChannel, u8_bellByte, bell_ofNat, hrange, not_true_eq_false, if_false]
  rfl

section
variable {s : State} {b : Bell}

theorem testAnswer_absent (h : s.channels[b].state = .absent) : testAnswer s b = s.refuse .channelState := by
  simp only [testAnswer, h]

theorem testAnswer_inUse
    (h : s.channels[b].state = .firing ∨ s.channels[b].state = .recovering ∨ s.channels[b].state = .testing) :
    testAnswer s b = s.refuse .busy := by
  obtain h | h | h := h <;> simp only [testAnswer, h]

theorem testAnswer_free
    (h : s.channels[b].state = .disabled ∨ s.channels[b].state = .ready ∨ s.channels[b].state = .fault) :
    testAnswer s b = { state := s.acceptTest b, status := .accepted, fields := [] } := by
  obtain h | h | h := h <;> simp only [testAnswer, h]

end

/-- Settles O45: the hold's check, the engine's and the test's, and then the channel's state. -/
theorem testAcceptedOrRefused : Obligations.TestAcceptedOrRefused := by
  intro s tag b hl
  have hanswer {a : Answer} (h : doTestChannel [byteOf b.val] s = a) :
      exec (.testChannel tag [byteOf b.val]) s = .next (a.state.answering 0x56 tag a.status a.fields) :=
    exec_of_blockAnswer (k := .testChannel) tag hl rfl h
  refine ⟨fun hheld => ?_, fun hinterlock hfail => ?_⟩
  · exact hanswer ((doTestChannel_bell s b).trans (if_pos ((sourcePresent_iff _).2 hheld)))
  · have hfree : ¬ s.engine.sourcePresent = true := by simp [sourcePresent_iff, hinterlock, hfail]
    have hunheld := (doTestChannel_bell s b).trans (if_neg hfree)
    refine ⟨fun hbusy => hanswer (hunheld.trans (if_pos hbusy)), fun hidle htest => ?_⟩
    have hstate := hunheld.trans (if_neg (by simp [hidle, htest]))
    refine ⟨fun habsent => ?_, fun hinUse => ?_, fun hready hnone => ?_⟩
    · exact hanswer (hstate.trans (testAnswer_absent habsent))
    · exact hanswer (hstate.trans (testAnswer_inUse hinUse))
    · rw [hanswer (hstate.trans (testAnswer_free hready)), acceptTest_of_idle b hnone]
      rfl

/-! ## The test pulse's start and the wait deadline (R129, R155, R178, R179, R181) -/

/-- What a raise adds to the Notice Queue does not depend on the blocks that a test changes. -/
theorem raise_with (s : State) (n : Notice) (r : Reservoir) (c : Vector Channel 64) (m : Monitor) :
    ({ s with reservoir := r, channels := c, monitor := m } : State).raise n =
      { s.raise n with reservoir := r, channels := c, monitor := m } := by
  unfold State.raise
  split <;> rfl

section
variable {s : State} {t : ChannelTest} (htest : s.monitor.test = some t)
include htest

theorem testStarting_of_ready (hwaiting : t.phase = .waiting) (hdraw : s.reservoir.testDraw ≠ none)
    (hcharge : t.cost ≤ s.reservoir.charge) (hrecovered : s.channels[t.bell].recoveryEnd ≤ s.stb) :
    s.testStarting = some t := by
  simp only [State.testStarting, htest]
  exact if_pos ⟨hwaiting, Option.isSome_iff_ne_none.2 hdraw, hcharge, hrecovered⟩

theorem testStarting_eq_none
    (h : t.phase ≠ .waiting ∨ ¬ (s.reservoir.testDraw ≠ none ∧ t.cost ≤ s.reservoir.charge
      ∧ s.channels[t.bell].recoveryEnd ≤ s.stb)) : s.testStarting = none := by
  simp only [State.testStarting, htest]
  exact if_neg fun ⟨hwaiting, hdraw, hrest⟩ =>
    h.elim (· hwaiting) (· ⟨Option.isSome_iff_ne_none.1 hdraw, hrest⟩)

theorem testExpiring_of_deadline (hwaiting : t.phase = .waiting) (hdue : t.deadline ≤ s.stb) :
    s.testExpiring = some t := by
  simp only [State.testExpiring, htest]
  exact if_pos ⟨hwaiting, hdue⟩

theorem testExpiring_eq_none (h : t.phase ≠ .waiting ∨ s.stb < t.deadline) : s.testExpiring = none := by
  simp only [State.testExpiring, htest]
  exact if_neg fun ⟨hwaiting, hdue⟩ => h.elim (· hwaiting) fun hearly => Nat.not_le.2 hearly hdue

end

section
variable {s : State} (hop : s.supply.operating = true)
include hop

theorem exec_testPulseStart_starts {t : ChannelTest} (h : s.testStarting = some t) :
    exec .testPulseStart s = .next (s.startTestPulse t).choose := by
  simp only [exec, execTestPulseStart, whenOperating_on _ _ hop, h]

theorem exec_testPulseStart_waits (h : s.testStarting = none) : exec .testPulseStart s = .next s.choose := by
  simp only [exec, execTestPulseStart, whenOperating_on _ _ hop, h]

theorem exec_testWaitDeadline_expires {t : ChannelTest} (h : s.testExpiring = some t) :
    exec .testWaitDeadline s = .next (s.expireTest t).choose := by
  simp only [exec, execTestWaitDeadline, whenOperating_on _ _ hop, h]

theorem exec_testWaitDeadline_waits (h : s.testExpiring = none) : exec .testWaitDeadline s = .next s.choose := by
  simp only [exec, execTestWaitDeadline, whenOperating_on _ _ hop, h]

end

/-- A test as its pulse starts: the pulse ends its width later, and minimum current is seen if its line is asserted. -/
def startedTest (s : State) (t : ChannelTest) : ChannelTest :=
  { t with
    phase := .pulse, pulseStart := some s.stb, pulseEnd := some (s.stb + t.width), minSeen := s.monitor.ismin }

/-- Striking Power with a test's draw granted (R155). -/
def drawnReservoir (s : State) (t : ChannelTest) : Reservoir :=
  { s.reservoir with charge := s.reservoir.charge - t.cost, testDraw := none }

/-- The draw granted and the gate on, before the sense lines are read (R129, R155). -/
def pulsing (s : State) (t : ChannelTest) : State :=
  { s with
    reservoir := drawnReservoir s t
    channels := s.channels.set t.bell { s.channels[t.bell] with gate := true, pulseEnd := some (s.stb + t.width) } }

theorem startTestPulse_eq (s : State) (t : ChannelTest) :
    s.startTestPulse t =
      if s.monitor.isovr then (pulsing s t).shortTest (startedTest s t)
      else (pulsing s t).setTest (some (startedTest s t)) := rfl

/-- A pulse cut as it starts leaves the channel's record as the cut alone would (R179; log 20). -/
theorem cutTestPulse_pulsing (s : State) (t : ChannelTest) :
    (pulsing s t).cutTestPulse (startedTest s t) =
      { s with reservoir := drawnReservoir s t, channels := pulseOver s t.bell s.stb (some s.stb) } := by
  have hrecord : (pulsing s t).channels[t.bell] =
      { s.channels[t.bell] with gate := true, pulseEnd := some (s.stb + t.width) } := Vector.getElem_set_self ..
  have hset (c d : Channel) : (s.channels.set t.bell c).set t.bell d = s.channels.set t.bell d := Vector.set_set ..
  simp only [State.cutTestPulse, startedTest, hrecord]
  exact congrArg (fun c => { s with reservoir := drawnReservoir s t, channels := c }) (hset _ _)

theorem startTestPulse_short {s : State} (t : ChannelTest) (h : s.monitor.isovr = true) :
    s.startTestPulse t =
      { s.raise (.testResult t.bell .short 0) with
        reservoir := drawnReservoir s t
        channels := pulseOver s t.bell s.stb (some s.stb)
        monitor :=
          { s.monitor with
            test :=
              some { startedTest s t with phase := .settled, pulseEnd := some s.stb, result := some .short } } } := by
  rw [startTestPulse_eq, if_pos h, State.shortTest, cutTestPulse_pulsing]
  exact raise_with s ..

/-- A test that expires gives its channel back, its draw withdrawn (R178, R181). -/
theorem expireTest_eq (s : State) (t : ChannelTest) :
    s.expireTest t =
      { s.raise (.testResult t.bell .notFired 0) with
        reservoir := { s.reservoir with testDraw := none }
        channels := s.channels.set t.bell (givenBack s.channels[t.bell] s.stb)
        monitor := { s.monitor with test := none } } := by
  have hraise := raise_with s (testNotice t .notFired) { s.reservoir with testDraw := none } s.channels s.monitor
  refine (congrArg (State.endTest · t) hraise).trans ?_
  simp only [State.endTest, State.setTest_eq, State.raise_stb]
  rfl

/-- Settles O46, by whether the draw is granted, the over-current line, and the wait deadline. -/
theorem testPulseStartsOrExpires : Obligations.TestPulseStartsOrExpires := by
  intro s t hop htest
  refine ⟨fun hwaiting ⟨hdraw, hcharge, hrecovered⟩ => ?_, fun hnot => ?_, fun hwaiting hdue => ?_, fun hnot => ?_⟩
  · have hstarts := exec_testPulseStart_starts hop (testStarting_of_ready htest hwaiting hdraw hcharge hrecovered)
    refine ⟨fun hclear => ?_, fun hover => ?_⟩
    · rw [hstarts, startTestPulse_eq, if_neg (ne_true_of_eq_false hclear)]
      rfl
    · rw [hstarts, startTestPulse_short t hover]
      rfl
  · exact exec_testPulseStart_waits hop (testStarting_eq_none htest hnot)
  · rw [exec_testWaitDeadline_expires hop (testExpiring_of_deadline htest hwaiting hdue), expireTest_eq]
  · exact exec_testWaitDeadline_waits hop (testExpiring_eq_none htest hnot)

end Sys2Proof.ChannelDispatch
end

section
/-! SUPPORT. The family of Striking Power: the refill step of the present millisecond. -/

namespace Sys2Proof.StrikingPower

open Sys2Proof.Machine

/-- In LOW the rate is half the refill rate, and never less than 1 (R153). -/
theorem effectiveRate_low (rate : Nat) : effectiveRate .low rate = max (rate / 2) 1 := by
  simp only [effectiveRate]
  split <;> omega

/-- What a refill changes: the mark, and the charge by the effective rate, at most to the capacity (R153; log 2). -/
theorem refill_eq (s : State) :
    s.refill =
      { s with
        refillDue := false
        reservoir :=
          { s.reservoir with
            charge :=
              min (s.reservoir.charge + effectiveRate s.reservoir.rail s.reservoir.refillRate)
                s.reservoir.capacity } } := rfl

/-- A refill step still to be taken is taken, and no millisecond passes (log 2). -/
theorem exec_refillStep_of_due {s : State} (hop : s.supply.operating = true) (hdue : s.refillDue = true) :
    exec .refillStep s = .next s.refill.choose := by
  simp only [exec, execRefillStep, whenOperating_on _ _ hop, hdue, if_true]

/-- Settles O36, by the rail level that the effective rate follows. -/
theorem refillStepRaisesCharge : Obligations.RefillStepRaisesCharge := by
  intro s hop hdue
  rw [exec_refillStep_of_due hop hdue, refill_eq]
  cases s.reservoir.rail with
  | normal => rfl
  | low => rw [effectiveRate_low]
  | fail => rfl

end Sys2Proof.StrikingPower
end

section
/-! SUPPORT. The family of the Flight Monitor: where a recognised impact goes, and the channel test from its pulse to its
end. -/

namespace Sys2Proof.FlightMonitor

open Sys2Proof.Machine Sys2Proof.ChannelDispatch

/-! ## The judgement of a test's observation (R180, R183) -/

theorem resultOf_early {t : ChannelTest} {obs : Int} (h : obs < t.earlyLimit) : resultOf t obs = .early := if_pos h

theorem resultOf_ok {t : ChannelTest} {obs : Int} (h : t.earlyLimit ≤ obs) : resultOf t obs = .ok :=
  if_neg (Int.not_lt.2 h)

theorem testNotice_ok {t : ChannelTest} {obs : Int} (h : t.observation = some obs) :
    testNotice t .ok = .testResult t.bell .ok obs.toNat := by
  rw [testNotice, if_pos rfl, h, Option.getD_some]

/-- TEST_RESULT carries the observation unless it is EARLY. -/
theorem testNotice_resultOf {t : ChannelTest} {obs : Int} (h : t.observation = some obs) :
    testNotice t (resultOf t obs) =
      .testResult t.bell (resultOf t obs) (if obs < t.earlyLimit then 0 else obs.toNat) := by
  by_cases hearly : obs < t.earlyLimit
  · rw [resultOf_early hearly, if_pos hearly]
    rfl
  · rw [resultOf_ok (Int.not_lt.1 hearly), if_neg hearly, testNotice_ok h]

/-! ## Settling a test (R179, R180) -/

/-- `raise_with` for a state that keeps its Striking Power. -/
theorem raise_with_channels (s : State) (n : Notice) (c : Vector Channel 64) (m : Monitor) :
    ({ s with channels := c, monitor := m } : State).raise n = { s.raise n with channels := c, monitor := m } :=
  (raise_with s n s.reservoir c m).trans (by rw [← State.raise_reservoir s n])

/-- A test that settles where channels and monitor have changed: its notice is the one the unchanged state would queue. -/
theorem settleTest_with (s : State) (c : Vector Channel 64) (m : Monitor) (t : ChannelTest) (r : TestResult) :
    ({ s with channels := c, monitor := m } : State).settleTest t r =
      { s.raise (testNotice t r) with
        channels := c
        monitor := { m with test := some { t with phase := .settled, result := some r } } } :=
  raise_with_channels s ..

theorem settleTest_endTestPulse (s : State) (t : ChannelTest) (p : Stb) (r : TestResult) :
    (s.endTestPulse t p).settleTest t r =
      { s.raise (testNotice t r) with
        channels := pulseOver s t.bell p none
        monitor := { s.monitor with test := some { t with phase := .settled, result := some r } } } :=
  settleTest_with s (pulseOver s t.bell p none) s.monitor t r

theorem settleTest_channels (s : State) (t : ChannelTest) (r : TestResult) : (s.settleTest t r).channels = s.channels :=
  State.raise_channels ..

theorem settleTest_stb (s : State) (t : ChannelTest) (r : TestResult) : (s.settleTest t r).stb = s.stb :=
  State.raise_stb ..

/-- A test that ends as it settles leaves its notice alone behind it. -/
theorem endTest_settleTest (s : State) (t : ChannelTest) (r : TestResult) :
    (s.settleTest t r).endTest t = (s.endTest t).raise (testNotice t r) := by
  have hsettle := settleTest_with s s.channels s.monitor t r
  have hraise : (s.endTest t).raise (testNotice t r) = _ := raise_with_channels s ..
  rw [hraise]
  refine (congrArg (State.endTest · t) hsettle).trans ?_
  simp only [State.endTest, State.raise_stb]
  rfl

/-- The pulse is cut at this moment with the result SHORT (R179; log 20). -/
theorem shortTest_with (s : State) (m : Monitor) (t : ChannelTest) :
    ({ s with monitor := m } : State).shortTest t =
      { s.raise (.testResult t.bell .short 0) with
        channels := pulseOver s t.bell s.stb (some s.stb)
        monitor :=
          { m with test := some { t with phase := .settled, pulseEnd := some s.stb, result := some .short } } } :=
  settleTest_with s (pulseOver s t.bell s.stb (some s.stb)) m { t with pulseEnd := some s.stb } .short

/-! ## Where an impact goes (R165) -/

section
variable {s : State} {b : Bell} {edge : Nat}

/-- The filter's 1 ms complete, the impact is routed, its input to be seen clear again (R164). -/
theorem exec_impactRecognised_routes (hop : s.supply.operating = true) (hinput : s.monitor.inputs[b] = .filtering edge)
    (hdue : edge / 16 + 1 ≤ s.stb) :
    exec (.impactRecognised b) s = .next ((heard s b).routeImpact b edge).choose := by
  have hrecognising : s.recognising b = some edge := by
    simp only [State.recognising, hinput]
    exact if_pos hdue
  simp only [exec, execImpactRecognised, whenOperating_on _ _ hop, hrecognising]
  rfl

theorem routeImpact_ignored (h : s.engine.interlock = true ∨ s.channels[b].state = .absent) :
    s.routeImpact b edge = s := by
  unfold State.routeImpact
  by_cases hinterlock : s.engine.interlock = true
  · exact if_pos hinterlock
  · exact (if_neg hinterlock).trans (if_pos (h.resolve_left hinterlock))

theorem routeImpact_testing (hinterlock : s.engine.interlock = false) (htesting : s.channels[b].state = .testing) :
    s.routeImpact b edge = s.testImpact b edge := by
  simp only [State.routeImpact, hinterlock, htesting, if_false, if_true, Bool.false_eq_true, reduceCtorEq]

section
variable (hinterlock : s.engine.interlock = false) (habsent : s.channels[b].state ≠ .absent)
  (htesting : s.channels[b].state ≠ .testing)
include hinterlock habsent htesting

theorem routeImpact_stray (h : s.monitor.windows[b] = none) : s.routeImpact b edge = s.stray b := by
  simp only [State.routeImpact, hinterlock, habsent, htesting, h, if_false, Bool.false_eq_true]

theorem routeImpact_answered {w : Window} (h : s.monitor.windows[b] = some w) (hanswered : w.answered = true) :
    s.routeImpact b edge = s := by
  simp only [State.routeImpact, hinterlock, habsent, htesting, h, if_false, Bool.false_eq_true]
  exact if_pos hanswered

end

/-- The first stray is announced (R174). -/
theorem stray_first (h : s.bells[b].strays = 0) :
    s.stray b = (s.setBell b { s.bells[b] with strays := 1 }).raise (.strayImpact b) := by
  simp only [State.stray, h, if_true]
  rfl

theorem stray_later (h : 0 < s.bells[b].strays) :
    s.stray b = s.setBell b { s.bells[b] with strays := min (s.bells[b].strays + 1) 255 } :=
  if_neg (Nat.ne_of_gt h)

/-- Heard already, or outside its window, a test ignores an impact. -/
theorem testImpact_ignored {t : ChannelTest} (htest : s.monitor.test = some t)
    (h : t.observation ≠ none ∨ t.phase = .waiting ∨ t.phase = .settled) : s.testImpact b edge = s := by
  simp only [State.testImpact, htest]
  refine if_neg fun ⟨_, hunheard, hopen⟩ => ?_
  obtain hheard | hwaiting | hsettled := h
  · exact hheard hunheard
  · exact hopen.elim (by simp [hwaiting]) (by simp [hwaiting])
  · exact hopen.elim (by simp [hsettled]) (by simp [hsettled])

section
variable {t : ChannelTest} {start : Stb} (htest : s.monitor.test = some t) (hbell : t.bell = b)
  (hunheard : t.observation = none) (hstart : t.pulseStart = some start)
include htest hbell hunheard hstart

theorem testImpact_pulse (hphase : t.phase = .pulse) :
    s.testImpact b edge = s.setTest (some { t with observation := some (edge - 16 * start : Int) }) := by
  simp [State.testImpact, htest, hbell, hunheard, hstart, hphase]

theorem testImpact_listening (hphase : t.phase = .listening) :
    s.testImpact b edge =
      s.settleTest { t with observation := some (edge - 16 * start : Int) } (resultOf t (edge - 16 * start)) := by
  simp [State.testImpact, htest, hbell, hunheard, hstart, hphase, resultOf]

end

end

/-- Settles O42, row by row of the routing: ignored, a stray or an answered window, the test. -/
theorem impactsAreRouted : Obligations.ImpactsAreRouted := by
  intro s b edge hop hinput hdue
  have routed {u : State} (h : (heard s b).routeImpact b edge = u) :
      exec (.impactRecognised b) s = .next u.choose :=
    h ▸ exec_impactRecognised_routes hop hinput hdue
  refine ⟨fun hignored => routed (routeImpact_ignored hignored), fun hinterlock habsent hnotTesting => ?_,
    fun t hinterlock htesting htest hbell => ?_⟩
  · refine ⟨fun hnone => ?_, fun w hw hanswered =>
      routed (routeImpact_answered hinterlock habsent hnotTesting hw hanswered)⟩
    have hstray := routeImpact_stray (s := heard s b) (edge := edge) hinterlock habsent hnotTesting hnone
    exact ⟨fun hfirst => routed (hstray.trans (stray_first hfirst)),
      fun hlater => routed (hstray.trans (stray_later hlater))⟩
  · have hoffered := routeImpact_testing (s := heard s b) (edge := edge) hinterlock htesting
    refine ⟨fun hclosed => routed (hoffered.trans (testImpact_ignored htest hclosed)), fun start hunheard hstart =>
      ⟨fun hpulse => ?_, fun hlistening => ?_⟩⟩
    · exact routed (hoffered.trans (testImpact_pulse htest hbell hunheard hstart hpulse))
    · refine routed ((hoffered.trans (testImpact_listening htest hbell hunheard hstart hlistening)).trans ?_)
      subst hbell
      exact congrArg (State.raise _) (testNotice_resultOf (t := { t with observation := some _ }) rfl)

/-! ## The sense lines (R179; log 12) -/

section
variable {s : State} {t : ChannelTest}

theorem seeMinimum_pulse (htest : s.monitor.test = some t) (hphase : t.phase = .pulse) :
    s.seeMinimum = s.setTest (some { t with minSeen := true }) := by
  simp only [State.seeMinimum, htest]
  exact if_pos hphase

theorem seeOverCurrent_pulse (htest : s.monitor.test = some t) (hphase : t.phase = .pulse) :
    s.seeOverCurrent = s.shortTest t := by
  simp only [State.seeOverCurrent, htest]
  exact if_pos hphase

theorem seeMinimum_noPulse (h : ∀ t, s.monitor.test = some t → t.phase ≠ .pulse) : s.seeMinimum = s := by
  unfold State.seeMinimum
  split
  case h_1 t htest => exact if_neg (h t htest)
  case h_2 => rfl

theorem seeOverCurrent_noPulse (h : ∀ t, s.monitor.test = some t → t.phase ≠ .pulse) : s.seeOverCurrent = s := by
  unfold State.seeOverCurrent
  split
  case h_1 t htest => exact if_neg (h t htest)
  case h_2 => rfl

/-- ISMIN at a level, before the test reads it. -/
def withIsmin (s : State) (level : Bool) : State := { s with monitor := { s.monitor with ismin := level } }

/-- ISOVR at a level, before the test reads it. -/
def withIsovr (s : State) (level : Bool) : State := { s with monitor := { s.monitor with isovr := level } }

theorem exec_isminAssert (level : Bool) (hop : s.supply.operating = true) :
    exec (.isminAssert level) s =
      .next (if level then (withIsmin s level).seeMinimum else withIsmin s level).choose := by
  simp only [exec, execIsminAssert, atAnyTime_on _ _ hop, State.setMonitor_supply, hop, Bool.true_and]
  rfl

theorem exec_isovrAssert (level : Bool) (hop : s.supply.operating = true) :
    exec (.isovrAssert level) s =
      .next (if level then (withIsovr s level).seeOverCurrent else withIsovr s level).choose := by
  simp only [exec, execIsovrAssert, atAnyTime_on _ _ hop, State.setMonitor_supply, hop, Bool.true_and]
  rfl

/-- With ISMIN deasserted, or with no test pulse, only the level changes. -/
theorem exec_isminAssert_level {level : Bool} (hop : s.supply.operating = true)
    (h : level = false ∨ ∀ t, s.monitor.test = some t → t.phase ≠ .pulse) :
    exec (.isminAssert level) s = .next (withIsmin s level).choose := by
  rw [exec_isminAssert level hop]
  cases level with
  | false => rfl
  | true => rw [if_pos rfl, seeMinimum_noPulse (s := withIsmin s true) (h.resolve_left nofun)]

/-- With ISOVR deasserted, or with no test pulse, only the level changes. -/
theorem exec_isovrAssert_level {level : Bool} (hop : s.supply.operating = true)
    (h : level = false ∨ ∀ t, s.monitor.test = some t → t.phase ≠ .pulse) :
    exec (.isovrAssert level) s = .next (withIsovr s level).choose := by
  rw [exec_isovrAssert level hop]
  cases level with
  | false => rfl
  | true => rw [if_pos rfl, seeOverCurrent_noPulse (s := withIsovr s true) (h.resolve_left nofun)]

end

/-! ## The moments of a test (R179 to R181) -/

section
variable {s : State} {t : ChannelTest} (hop : s.supply.operating = true) (htest : s.monitor.test = some t)
include hop htest

theorem exec_testPulseEnd {p : Stb} (hphase : t.phase = .pulse) (hend : t.pulseEnd = some p) :
    exec .testPulseEnd s = .next (if p ≤ s.stb then s.finishTestPulse t p else s).choose := by
  have hending : s.testPulseEnding = if p ≤ s.stb then some (t, p) else none := by
    simp only [State.testPulseEnding, htest, hphase, hend]
  simp only [exec, execTestPulseEnd, whenOperating_on _ _ hop, hending]
  by_cases hdue : p ≤ s.stb
  · rw [if_pos hdue, if_pos hdue]
  · rw [if_neg hdue, if_neg hdue]

theorem exec_testWindowClose (hphase : t.phase = .listening) :
    exec .testWindowClose s = .next (if s.testWindowEnd t ≤ s.stb then s.closeTestWindow t else s).choose := by
  have hclosing : s.testWindowClosing = if s.testWindowEnd t ≤ s.stb then some t else none := by
    simp only [State.testWindowClosing, htest, hphase, true_and]
  simp only [exec, execTestWindowClose, whenOperating_on _ _ hop, hclosing]
  by_cases hdue : s.testWindowEnd t ≤ s.stb
  · rw [if_pos hdue, if_pos hdue]
  · rw [if_neg hdue, if_neg hdue]

theorem exec_testEnd :
    exec .testEnd s =
      .next (if t.phase = .settled ∧ s.channels[t.bell].recoveryEnd ≤ s.stb then s.endTest t else s).choose := by
  have hending : s.testEnding =
      if t.phase = .settled ∧ s.channels[t.bell].recoveryEnd ≤ s.stb then some t else none := by
    simp only [State.testEnding, htest]
  simp only [exec, execTestEnd, whenOperating_on _ _ hop, hending]
  by_cases hdue : t.phase = .settled ∧ s.channels[t.bell].recoveryEnd ≤ s.stb
  · rw [if_pos hdue, if_pos hdue]
  · rw [if_neg hdue, if_neg hdue]

end

section
variable {s : State} {t : ChannelTest}

/-- The window's end, its own length or the recovery end, the earlier of the two (R180). -/
theorem testWindowEnd_le_iff {start : Stb} (hstart : t.pulseStart = some start) :
    s.testWindowEnd t ≤ s.stb ↔ start + t.windowLength ≤ s.stb ∨ s.channels[t.bell].recoveryEnd ≤ s.stb := by
  have hmin (a b c : Nat) : min a b ≤ c ↔ a ≤ c ∨ b ≤ c := by omega
  rw [State.testWindowEnd, hstart, Option.getD_some]
  exact hmin _ _ _

theorem finishTestPulse_open (p : Stb) (hmin : t.minSeen = false) :
    s.finishTestPulse t p = (s.endTestPulse t p).settleTest t .coilOpen := by
  simp only [State.finishTestPulse, hmin]
  rfl

theorem finishTestPulse_unheard (p : Stb) (hmin : t.minSeen = true) (hnone : t.observation = none) :
    s.finishTestPulse t p = (s.endTestPulse t p).setTest (some { t with phase := .listening }) := by
  simp only [State.finishTestPulse, hmin, hnone]
  rfl

theorem finishTestPulse_heard (p : Stb) {obs : Int} (hmin : t.minSeen = true) (hobs : t.observation = some obs) :
    s.finishTestPulse t p = (s.endTestPulse t p).settleTest t (resultOf t obs) := by
  simp only [State.finishTestPulse, hmin, hobs]
  rfl

/-- Before the recovery end the closed window leaves the test SETTLED. -/
theorem closeTestWindow_settles (h : s.stb < s.channels[t.bell].recoveryEnd) :
    s.closeTestWindow t = s.settleTest t .noImpact := by
  simp only [State.closeTestWindow, settleTest_channels, settleTest_stb]
  exact if_neg (Nat.not_le.2 h)

/-- At the recovery end the window closes and the test ends at once (R181). -/
theorem closeTestWindow_ends (h : s.channels[t.bell].recoveryEnd ≤ s.stb) :
    s.closeTestWindow t = (s.endTest t).raise (.testResult t.bell .noImpact 0) := by
  simp only [State.closeTestWindow, settleTest_channels, settleTest_stb]
  exact (if_pos h).trans (endTest_settleTest s t .noImpact)

end

/-- Settles O47: the sense lines by the test's phase, and then each moment by its condition. -/
theorem testIsJudgedAndEnds : Obligations.TestIsJudgedAndEnds := by
  refine ⟨fun s level hop => ⟨fun t htest hphase hlevel => ?_, fun h =>
    ⟨exec_isminAssert_level hop h, exec_isovrAssert_level hop h⟩⟩, fun s t hop htest => ⟨fun p hphase hend => ?_,
      fun start hphase hstart => ?_, fun hphase hdue => ?_, fun hnot => ?_⟩⟩
  · subst hlevel
    refine ⟨?_, ?_⟩
    · rw [exec_isminAssert true hop, if_pos rfl, seeMinimum_pulse (s := withIsmin s true) htest hphase]
      rfl
    · rw [exec_isovrAssert true hop, if_pos rfl, seeOverCurrent_pulse (s := withIsovr s true) htest hphase]
      exact congrArg _ (congrArg _ (shortTest_with s _ t))
  · rw [exec_testPulseEnd hop htest hphase hend]
    refine ⟨fun hearly => by rw [if_neg (Nat.not_le.2 hearly)], fun hdue => ?_⟩
    rw [if_pos hdue]
    refine ⟨fun hopen => ?_, fun hmin => ⟨fun hnone => ?_, fun obs hobs => ⟨fun hearly => ?_, fun hok => ?_⟩⟩⟩
    · rw [finishTestPulse_open p hopen, settleTest_endTestPulse]
      rfl
    · rw [finishTestPulse_unheard p hmin hnone]
      rfl
    · rw [finishTestPulse_heard p hmin hobs, resultOf_early hearly, settleTest_endTestPulse]
      rfl
    · rw [finishTestPulse_heard p hmin hobs, resultOf_ok hok, settleTest_endTestPulse, testNotice_ok hobs]
  · rw [exec_testWindowClose hop htest hphase]
    refine ⟨fun hopen hrecovering => ?_, fun hclosed hrecovering => ?_, fun hrecovered => ?_⟩
    · rw [if_neg fun h => ((testWindowEnd_le_iff hstart).1 h).elim (Nat.not_le.2 hopen) (Nat.not_le.2 hrecovering)]
    · rw [if_pos ((testWindowEnd_le_iff hstart).2 (.inl hclosed)), closeTestWindow_settles hrecovering]
      exact congrArg _ (congrArg _ (settleTest_with s s.channels s.monitor t .noImpact))
    · rw [if_pos ((testWindowEnd_le_iff hstart).2 (.inr hrecovered)), closeTestWindow_ends hrecovered]
      rfl
  · rw [exec_testEnd hop htest, if_pos ⟨hphase, hdue⟩]
    rfl
  · rw [exec_testEnd hop htest, if_neg fun ⟨hphase, hdue⟩ => hnot.elim (· hphase) fun hearly => Nat.not_le.2 hearly hdue]

end Sys2Proof.FlightMonitor
end

section
/-! SUPPORT. The family of the message link: what a request leaves in its block, the reports, the receive side from a
character to the end of its frame, the break, and the transmitter. -/

namespace Sys2Proof.MessageLink

open Sys2Proof.Machine Sys2Proof.ScheduleTable

/-! ## Requests as commands (R195) -/

theorem eq_code_of_ofCode {kind : Byte} {k : ReqKind} (h : ReqKind.ofCode kind = some k) : kind = k.code := by
  have hcode := List.find?_some h
  exact (beq_iff_eq.1 hcode).symm

/-- A frame's command is the arrival of that frame, whatever its KIND. -/
theorem exec_commandOf (kind tag : Byte) (payload : List Byte) (s : State) :
    exec (commandOf kind tag payload) s = requestArrives kind tag payload s := by
  cases h : ReqKind.ofCode kind with
  | none => simp only [commandOf, h]; rfl
  | some k =>
    obtain rfl := eq_code_of_ofCode h
    simp only [commandOf, h]
    cases k <;> rfl

/-- Of a listening part a frame's command is answered as the Request Handler answers. -/
theorem exec_commandOf_listening {s : State} (kind tag : Byte) (payload : List Byte) (hl : Listening s) :
    exec (commandOf kind tag payload) s =
      .next
        ((answer kind payload s).state.answering kind tag (answer kind payload s).status
          (answer kind payload s).fields) :=
  (exec_commandOf kind tag payload s).trans (requestArrives_listening s kind tag payload hl)

/-! ## What a request may do (R195, R210) -/

/-- A request's answer: the state as it was, or a success that touches the listed parts alone. BAD_SCORE stands with the
successes, since SCORE_END empties the slot with it (R25). -/
inductive Settles (parts : List Part) (s : State) : Answer → Prop
  | unchanged (status : Status) (fields : List Byte) :
      Settles parts s { state := s, status := status, fields := fields }
  | done {t : State} {status : Status} (fields : List Byte)
      (hstatus : status = .ok ∨ status = .accepted ∨ status = .badScore) (h : Touches parts s t) :
      Settles parts s { state := t, status := status, fields := fields }

theorem Settles.ok {parts : List Part} {s t : State} (fields : List Byte) (h : Touches parts s t) :
    Settles parts s (t.okWith fields) := .done fields (.inl rfl) h

/-- A check of its own refuses, or what comes after it answers. -/
theorem Settles.check {parts : List Part} {s : State} {c : Prop} [Decidable c] {status : Status} {fields : List Byte}
    {a : Answer} (h : Settles parts s a) :
    Settles parts s (if c then { state := s, status := status, fields := fields } else a) := by
  split
  · exact .unchanged _ _
  · exact h

theorem Settles.mono {l m : List Part} {s : State} {a : Answer} (h : Settles l s a) (sub : ∀ p ∈ l, p ∈ m) :
    Settles m s a := by
  cases h with
  | unchanged => exact .unchanged _ _
  | done fields hstatus ht => exact .done fields hstatus (ht.mono sub)

theorem Settles.state_eq {parts : List Part} {s : State} {a : Answer} (h : Settles parts s a) (hok : a.status ≠ .ok)
    (haccepted : a.status ≠ .accepted) (hbadScore : a.status ≠ .badScore) : a.state = s := by
  cases h with
  | unchanged => rfl
  | done _ hstatus _ =>
    obtain h | h | h := hstatus
    · exact absurd h hok
    · exact absurd h haccepted
    · exact absurd h hbadScore

theorem Settles.link_eq {parts : List Part} {s : State} {a : Answer} (h : Settles parts s a) (hlink : .link ∉ parts) :
    a.state.link = s.link := by
  cases h with
  | unchanged => rfl
  | done _ _ ht => exact ht.same .link hlink

section
variable (p : List Byte) (s : State)

theorem doStatus_settles : Settles [.notices] s (doStatus p s) := .ok _ (touches_setNotices ..)

theorem doRestart_settles : Settles [.link] s (doRestart p s) := .ok _ (touches_setLink ..)

theorem doTimeSet_settles :
    Settles [.calendar, .queue, .planner, .cues, .engine, .notices, .scores, .schedule] s (doTimeSet p s) := by
  unfold doTimeSet
  split
  · exact .unchanged _ _
  · exact .ok _ (touches_setTime ..)

theorem doScoreBegin_settles : Settles [.scores] s (doScoreBegin p s) := by
  unfold doScoreBegin
  split
  · exact .unchanged _ _
  · exact .check (.check (.ok _ (touches_setSlot ..)))

theorem doScoreData_settles : Settles [.scores] s (doScoreData p s) := by
  have hstored (mem : List Host.Cell) (i : SlotNo) (x : Slot) :
      Touches [.scores] s ((s.setScores { s.scores with mem := mem }).setSlot i x) :=
    (touches_setScores ..).seq (touches_setSlot ..) (fun _ => id) fun _ => id
  exact .check (.check (.check (.check (.ok _ (hstored ..)))))

theorem doScoreEnd_settles : Settles [.scores] s (doScoreEnd p s) := by
  refine .check (.check (.check ?_))
  split
  · exact .ok _ (touches_setSlot ..)
  · exact .done _ (.inr (.inr rfl)) (touches_setSlot ..)

theorem doScoreErase_settles : Settles [.scores] s (doScoreErase p s) := .check (.check (.ok _ (touches_setSlot ..)))

theorem doScoreInfo_settles : Settles [] s (doScoreInfo p s) := .check (.unchanged _ _)

theorem doSchedWrite_settles : Settles [.schedule] s (doSchedWrite p s) := by
  unfold doSchedWrite
  split
  · exact .unchanged _ _
  · exact .check (.ok _ (touches_setEntry ..))

theorem doSchedRead_settles : Settles [] s (doSchedRead p s) := .check (.unchanged _ _)

theorem doSchedEnable_settles : Settles [.schedule] s (doSchedEnable p s) := by
  unfold doSchedEnable
  split
  · exact .unchanged _ _
  · dsimp only
    split
    · exact .unchanged _ _
    · exact .ok _ (touches_setEntry ..)

theorem doSchedClear_settles : Settles [.schedule] s (doSchedClear p s) := .check (.check (.ok _ (touches_setEntry ..)))

theorem doPlay_settles :
    Settles [.queue, .planner, .cues, .engine, .notices, .scores, .schedule] s (doPlay p s) := by
  unfold doPlay
  dsimp only
  split
  · exact .unchanged _ _
  · refine .check (.check ?_)
    split
    case h_1 => exact .unchanged _ _
    case h_2 hoffer => exact .ok _ (touches_offer _ _ _ hoffer)

/-- The parts that a STOP may touch (R93). -/
def stopParts : List Part := [.queue, .cues, .engine, .planner, .notices, .scores, .schedule]

theorem stopListed_settles (n : Nat) : Settles stopParts s (doStop.stopListed s n) := by
  unfold doStop.stopListed
  split
  · exact .ok _ ((touches_setWaiting ..).trans (touches_endCue ..) |>.mono (by decide))
  · exact .unchanged _ _

theorem stopOther_settles (n : Nat) : Settles stopParts s (doStop.stopOther s n) := by
  unfold doStop.stopOther
  split
  · split
    · exact .ok _ ((touches_setEngine ..).trans (touches_endCue ..) |>.mono (by decide))
    · exact stopListed_settles s n
  · exact stopListed_settles s n

theorem doStop_settles : Settles stopParts s (doStop p s) := by
  unfold doStop
  dsimp only
  split
  · split
    · exact .ok _ (touches_abortPerformance ..)
    · exact stopOther_settles s _
  · exact stopOther_settles s _

theorem doCueRead_settles : Settles [] s (doCueRead p s) := by
  unfold doCueRead
  split
  · exact .unchanged _ _
  · exact .unchanged _ _

theorem doSettingsWrite_settles : Settles [.engine, .reservoir, .queue] s (doSettingsWrite p s) := by
  unfold doSettingsWrite
  split
  · exact .unchanged _ _
  · exact .ok _
      (((touches_setEngine ..).trans (touches_setReservoir ..)).trans (touches_dropAllLate _) |>.mono (by decide))

theorem doBellWrite_settles : Settles [.bells, .channels, .monitor] s (doBellWrite p s) := by
  unfold doBellWrite
  split
  · exact .unchanged _ _
  · dsimp only
    split
    · exact .unchanged _ _
    · have hwritten (r : BellRecord) (c : Channel) (b : Bell) :
          Touches [.bells, .channels] s ((s.setBell b r).setChannel b c) :=
        (touches_setBell ..).trans (touches_setChannel ..)
      have hentered (b : Bell) (r : BellRecord) (c : Channel) (present : Bool) :
          Touches [.bells, .channels, .monitor] s
            (if present then (s.setBell b r).setChannel b c
             else ((s.setBell b r).setChannel b c).abandonWindow b) := by
        cases present
        · exact (hwritten r c b).trans (touches_setWindow ..)
        · exact (hwritten r c b).mono (by decide)
      split
      case h_1 | h_2 | h_3 | h_4 => exact .unchanged _ _
      all_goals exact .ok _ (hentered ..)

theorem doBellRead_settles : Settles [.bells] s (doBellRead p s) := by
  unfold doBellRead
  split
  · exact .unchanged _ _
  · dsimp only
    split
    · exact .ok _ (touches_setBell ..)
    · exact .unchanged _ _

theorem doBellEnable_settles : Settles [.channels, .bells] s (doBellEnable p s) := by
  refine .check ?_
  dsimp only
  split
  case h_1 => exact .done _ (.inl rfl) ((touches_setChannel ..).trans (touches_setBell ..))
  all_goals exact .unchanged _ _

theorem doBellDisable_settles :
    Settles [.channels, .engine, .queue, .planner, .monitor, .bells] s (doBellDisable p s) := by
  have hdisabled (b : Bell) (r : BellRecord) :
      Touches [.channels, .engine, .queue, .planner, .monitor, .bells] s
        (((s.withdraw b .disabled).abandonWindow b).setBell b r) :=
    ((touches_withdraw ..).trans (touches_setWindow ..)).trans (touches_setBell ..)
  refine .check ?_
  dsimp only
  split
  case h_1 | h_2 | h_3 => exact .done _ (.inl rfl) (hdisabled ..)
  all_goals exact .unchanged _ _

theorem doBellClearFault_settles : Settles [.channels, .bells] s (doBellClearFault p s) := by
  refine .check ?_
  dsimp only
  split
  case h_1 => exact .done _ (.inl rfl) ((touches_setChannel ..).trans (touches_setBell ..))
  all_goals exact .unchanged _ _

theorem doStrike_settles : Settles [.queue, .planner] s (doStrike p s) := by
  unfold doStrike
  split
  · exact .unchanged _ _
  · exact .check (.check (.check (.check (.ok _ (touches_place ..)))))

theorem doTestChannel_settles :
    Settles [.monitor, .channels, .engine, .queue, .planner, .reservoir] s (doTestChannel p s) := by
  refine .check (.check (.check ?_))
  split
  case h_5 | h_6 | h_7 => exact .done _ (.inr (.inl rfl)) (touches_acceptTest ..)
  all_goals exact .unchanged _ _

end

/-- The parts that requests may touch: no request but RESTART touches the link. -/
def requestParts (k : ReqKind) : List Part :=
  [.calendar, .schedule, .scores, .cues, .engine, .planner, .queue, .channels, .reservoir, .monitor, .bells, .notices]
    ++ if k = .restart then [.link] else []

theorem blockAnswer_settles (k : ReqKind) (p : List Byte) (s : State) :
    Settles (requestParts k) s (blockAnswer k p s) := by
  cases k with
  | status => exact (doStatus_settles p s).mono (by decide)
  | restart => exact (doRestart_settles p s).mono (by decide)
  | timeSet => exact (doTimeSet_settles p s).mono (by decide)
  | timeGet => exact .unchanged _ _
  | scoreBegin => exact (doScoreBegin_settles p s).mono (by decide)
  | scoreData => exact (doScoreData_settles p s).mono (by decide)
  | scoreEnd => exact (doScoreEnd_settles p s).mono (by decide)
  | scoreErase => exact (doScoreErase_settles p s).mono (by decide)
  | scoreInfo => exact (doScoreInfo_settles p s).mono (by decide)
  | schedWrite => exact (doSchedWrite_settles p s).mono (by decide)
  | schedRead => exact (doSchedRead_settles p s).mono (by decide)
  | schedEnable => exact (doSchedEnable_settles p s).mono (by decide)
  | schedClear => exact (doSchedClear_settles p s).mono (by decide)
  | play => exact (doPlay_settles p s).mono (by decide)
  | stop => exact (doStop_settles p s).mono (by decide)
  | cueRead => exact (doCueRead_settles p s).mono (by decide)
  | settingsWrite => exact (doSettingsWrite_settles p s).mono (by decide)
  | settingsRead => exact .unchanged _ _
  | bellWrite => exact (doBellWrite_settles p s).mono (by decide)
  | bellRead => exact (doBellRead_settles p s).mono (by decide)
  | bellEnable => exact (doBellEnable_settles p s).mono (by decide)
  | bellDisable => exact (doBellDisable_settles p s).mono (by decide)
  | bellClearFault => exact (doBellClearFault_settles p s).mono (by decide)
  | strike => exact (doStrike_settles p s).mono (by decide)
  | testChannel => exact (doTestChannel_settles p s).mono (by decide)

theorem answer_noKind {kind : Byte} (p : List Byte) (s : State) (h : ReqKind.ofCode kind = none) :
    answer kind p s = s.refuse .badKind := by
  simp only [answer, h]

theorem answer_badLength {k : ReqKind} {p : List Byte} (s : State) (h : lengthRight k p.length = false) :
    answer k.code p s = s.refuse .badLength := by
  simp only [answer, ofCode_code, h, Bool.false_eq_true, if_false]

theorem answer_block {k : ReqKind} {p : List Byte} (s : State) (h : lengthRight k p.length = true) :
    answer k.code p s = blockAnswer k p s := by
  simp only [answer, ofCode_code, h, if_true]

/-- The Request Handler's answer: a refusal of its own, or the owning block's. -/
theorem answer_settles (kind : Byte) (p : List Byte) (s : State) :
    ∃ k, Settles (requestParts k) s (answer kind p s) := by
  cases h : ReqKind.ofCode kind with
  | none => exact ⟨.status, answer_noKind p s h ▸ .unchanged _ _⟩
  | some k =>
    obtain rfl := eq_code_of_ofCode h
    cases hlength : lengthRight k p.length with
    | false => exact ⟨k, answer_badLength s hlength ▸ .unchanged _ _⟩
    | true => exact ⟨k, answer_block s hlength ▸ blockAnswer_settles k p s⟩

/-- Settles O8: a refusal leaves the state that its answer carries as it was. -/
theorem refusedRequestsChangeNothing : Obligations.RefusedRequestsChangeNothing := by
  refine ⟨fun s kind tag payload hl hok haccepted hbadScore => ?_, fun s tag payload hl =>
    ⟨fun kind hkind => ?_, fun k hlength => ?_⟩⟩
  · obtain ⟨k, hsettles⟩ := answer_settles kind payload s
    rw [exec_commandOf_listening kind tag payload hl, hsettles.state_eq hok haccepted hbadScore]
  · have hexec := requestArrives_listening s kind tag payload hl
    rw [answer_noKind payload s hkind] at hexec
    exact hexec
  · rw [exec_commandOf_listening k.code tag payload hl, answer_badLength s hlength]
    rfl

/-! ## Reports (R27, R44, R59, R161, R198, R205) -/

/-- A slot's index survives its byte in a payload. -/
theorem u8_slotByte (i : SlotNo) : u8 [byteOf i.val] 0 = i.val := by
  simp only [u8, byteOf, List.getD_cons_zero, BitVec.toNat_ofNat]
  omega

theorem slot_ofNat (i : SlotNo) : Fin.ofNat 32 i.val = i := Fin.ext (Nat.mod_eq_of_lt i.isLt)

/-- SCORE_INFO's header fields, zeros without a header (R27). -/
def infoBytes : Option Header → List Byte
  | some h => bigEndian 2 h.recordCount ++ bigEndian 2 h.defaultBeat ++ [byteOf h.repeats] ++ bigEndian 2 h.repeatGap
  | none => [0, 0, 0, 0, 0, 0, 0]

theorem infoBytes_header (x : Slot) :
    infoBytes x.header =
      bigEndian 2 x.headerOrZero.recordCount ++ bigEndian 2 x.headerOrZero.defaultBeat
        ++ [byteOf x.headerOrZero.repeats] ++ bigEndian 2 x.headerOrZero.repeatGap := by
  unfold Slot.headerOrZero
  cases x.header <;> rfl

theorem doScoreInfo_slot (s : State) (i : SlotNo) :
    doScoreInfo [byteOf i.val] s =
      s.okWith
        ([s.scores.slots[i].state.code] ++ infoBytes s.scores.slots[i].header
          ++ bigEndian 2 s.scores.slots[i].nextOffset ++ bigEndian 2 s.scores.slots[i].chain.length
          ++ [byteOf s.scores.slots[i].refCount] ++ bigEndian 2 s.freeCount) := by
  have hrange : i.val ≤ 31 := Nat.le_of_lt_succ i.isLt
  simp only [doScoreInfo, u8_slotByte, slot_ofNat, hrange, not_true_eq_false, if_false, infoBytes_header,
    List.cons_append, List.nil_append]

theorem doSchedRead_entry (s : State) (i : EntryNo) :
    doSchedRead [byteOf i.val] s = s.okWith (entryBytes i.val s.schedule[i]) := by
  have hrange : i.val ≤ 95 := Nat.le_of_lt_succ i.isLt
  simp only [doSchedRead, u8_entryByte, entry_ofNat, hrange, not_true_eq_false, if_false]

/-- STATUS's fields as they stand (R198). -/
theorem doStatus_fields (s : State) :
    doStatus [] s =
      ({ s with notices := { s.notices with overflow := false } } : State).okWith
        ([s.engine.state.code, byteOf ((s.engine.current.map fun p => p.cue.id).getD 0),
          byteOf ((s.engine.held.map fun h => h.cue.id).getD 0), sourceByte s.engine.interlock s.engine.fail,
          s.reservoir.rail.code, flagByte s.calendar.valid, byteOf s.cues.waiting.length, byteOf s.queue.length]
          ++ bigEndian 2 s.reservoir.charge ++ [flagByte s.notices.overflow, s.supply.startCause.code]) := by
  unfold doStatus
  cases s.engine.current <;> cases s.engine.held <;> rfl

/-- Settles O6, each report by its block's answer. -/
theorem reportsCarryFieldsAsTheyStand : Obligations.ReportsCarryFieldsAsTheyStand := by
  refine ⟨fun s tag hl => ⟨?_, ?_⟩, fun s tag hl => ⟨?_, ?_, fun i => ?_, fun i => ⟨fun hempty => ?_, fun e he => ?_⟩⟩⟩
  · exact exec_of_blockAnswer (k := .status) tag hl rfl (doStatus_fields s)
  · exact exec_of_blockAnswer (k := .restart) tag hl rfl rfl
  · exact exec_of_blockAnswer (k := .timeGet) tag hl rfl rfl
  · exact exec_of_blockAnswer (k := .settingsRead) tag hl rfl rfl
  · have hexec := exec_of_blockAnswer (k := .scoreInfo) tag hl rfl (doScoreInfo_slot s i)
    cases hheader : s.scores.slots[i].header <;> rw [hheader] at hexec <;> exact hexec
  · exact exec_of_blockAnswer (k := .schedRead) tag hl rfl
      ((doSchedRead_entry s i).trans (congrArg (fun x => s.okWith (entryBytes i.val x)) hempty))
  · exact exec_of_blockAnswer (k := .schedRead) tag hl rfl
      ((doSchedRead_entry s i).trans (congrArg (fun x => s.okWith (entryBytes i.val x)) he))

/-! ## Marks (R186, R191) -/

theorem receivedByte_eq (data : Byte) (parityBit stopBit : Bool) :
    receivedByte data parityBit stopBit = received data parityBit stopBit := by
  have hodd : decide ((onesBelow data 8 + (if parityBit then 1 else 0)) % 2 = 1) =
      (decide (onesBelow data 8 % 2 = 1) != parityBit) := by
    cases parityBit <;> by_cases h : onesBelow data 8 % 2 = 1 <;> simp [h] <;> omega
  simp only [receivedByte, received, hodd]

/-- A character with right parity and its stop bit at mark carries no mark. -/
theorem received_undamaged (b : Byte) : received b (decide (onesBelow b 8 % 2 = 1)) true = cleanByte b := by
  simp only [received, cleanByte, bne_self_eq_false, Bool.not_true]

/-- No byte of the list carries a mark. -/
def Unmarked (l : List RxByte) : Prop := ∀ y ∈ l, y.overrun = false ∧ y.framing = false ∧ y.parity = false

theorem marked_eq_false {b : RxByte} : b.marked = false ↔ b.overrun = false ∧ b.framing = false ∧ b.parity = false := by
  simp only [RxByte.marked, Bool.or_eq_false_iff]
  exact ⟨fun ⟨⟨hparity, hframing⟩, hoverrun⟩ => ⟨hoverrun, hframing, hparity⟩,
    fun ⟨hoverrun, hframing, hparity⟩ => ⟨⟨hparity, hframing⟩, hoverrun⟩⟩

theorem find_marked_of_unmarked {l : List RxByte} (h : Unmarked l) : l.find? RxByte.marked = none :=
  List.find?_eq_none.2 fun y hy => ne_true_of_eq_false (marked_eq_false.2 (h y hy))

theorem find_marked_of_earliest {before : List RxByte} {x : RxByte} (after : List RxByte) (h : Unmarked before)
    (hx : x.marked = true) : (before ++ x :: after).find? RxByte.marked = some x := by
  rw [List.find?_append, find_marked_of_unmarked h, List.find?_cons_of_pos hx]
  rfl

/-- What holds of a marked byte's reason holds mark by mark, overrun before framing before parity (R191). -/
theorem reason_by_mark {x : RxByte} {ends : RejectReason → Prop} (h : x.marked = true → ends x.reason) :
    (x.overrun = true → ends .overrun) ∧ (x.overrun = false → x.framing = true → ends .framing)
      ∧ (x.overrun = false → x.framing = false → x.parity = true → ends .parity) := by
  refine ⟨fun ho => ?_, fun ho hf => ?_, fun ho hf hp => ?_⟩
  · simpa [RxByte.reason, ho] using h (by simp [RxByte.marked, ho])
  · simpa [RxByte.reason, ho, hf] using h (by simp [RxByte.marked, hf])
  · simpa [RxByte.reason, ho, hf] using h (by simp [RxByte.marked, hp])

/-! ## The end of a frame (R190, R191, R194) -/

theorem endFrame_handedOn {s : State} (f : EndedFrame) (h : s.link.reply = none) :
    s.endFrame f = (s.setLink (hunting s.link)).handOn f := by
  unfold State.endFrame
  split
  case h_1 => rfl
  case h_2 hreply => exact absurd (h.symm.trans hreply) nofun

theorem endFrame_held {s : State} {reply : Frame} (f : EndedFrame) (h : s.link.reply = some reply) :
    s.endFrame f = s.setLink { hunting s.link with ended := some f } := by
  unfold State.endFrame
  split
  case h_1 hnone => exact absurd (h.symm.trans hnone) nofun
  case h_2 => rfl

theorem endFrame_rejected (s : State) (reason : RejectReason) (kind tag : Option Byte) :
    s.endFrame (.rejected reason kind tag) = rejected s reason kind tag := by
  cases h : s.link.reply with
  | none => rw [endFrame_handedOn _ h]; simp only [rejected, h, if_true]; rfl
  | some reply => rw [endFrame_held _ h]; simp only [rejected, h, reduceCtorEq, if_false]; rfl

/-- A complete frame is rejected for its earliest mark. -/
theorem outcomeOf_marked {len : RxByte} {got before after : List RxByte} {x : RxByte}
    (hsplit : len :: got = before ++ x :: after) (h : Unmarked before) (hx : x.marked = true) :
    outcomeOf len got = .rejected x.reason (kindTaken got) (tagTaken got) := by
  simp only [outcomeOf, hsplit, find_marked_of_earliest after h hx]

theorem byteSum_eq (l : List RxByte) : byteSum l = (l.map RxByte.data).foldl (· + ·) 0 := by
  rw [byteSum, List.foldl_map]

section
variable {len kind tag check : RxByte} {payload : List RxByte}
  (h : Unmarked (len :: kind :: tag :: (payload ++ [check])))
include h

/-- Without a mark a complete frame is good by its sum. -/
theorem outcomeOf_good
    (hsum : ((len :: kind :: tag :: (payload ++ [check])).map RxByte.data).foldl (· + ·) 0 = 0) :
    outcomeOf len (kind :: tag :: (payload ++ [check])) = .good kind.data tag.data (payload.map RxByte.data) := by
  rw [← byteSum_eq] at hsum
  simp only [outcomeOf, find_marked_of_unmarked h, hsum, if_true, List.drop_succ_cons, List.drop_zero,
    List.dropLast_concat]
  rfl

theorem outcomeOf_check
    (hsum : ((len :: kind :: tag :: (payload ++ [check])).map RxByte.data).foldl (· + ·) 0 ≠ 0) :
    outcomeOf len (kind :: tag :: (payload ++ [check])) = .rejected .check (some kind.data) (some tag.data) := by
  rw [← byteSum_eq] at hsum
  simp only [outcomeOf, find_marked_of_unmarked h, hsum, if_false]
  rfl

end

/-! ## The assembler takes a byte (R190, R192) -/

/-- The state with the assembler in a frame, the gap deadline moved on. -/
def collectingIn (s : State) (a : Assembler) : State :=
  { s with link := { s.link with assembler := a, gapDeadline := some (s.stb + 20) } }

section
variable {s : State} {b : RxByte}

theorem takeByte_ends {a : Assembler} {f : EndedFrame} (h : s.link.assembler.take b = (a, some f)) :
    s.takeByte b = s.endFrame f := by
  simp only [State.takeByte, h]

theorem takeByte_collects {a : Assembler} (h : s.link.assembler.take b = (a, none)) (ha : a.collecting = true) :
    s.takeByte b = collectingIn s a := by
  simp only [State.takeByte, h, ha, if_true]
  rfl

theorem takeByte_sync (ha : s.link.assembler = .hunting) (hb : b.data = 0xC3) : s.takeByte b = collectingIn s .length :=
  takeByte_collects (by simp [ha, Assembler.take, hb, syncByte]) rfl

theorem takeByte_noise (ha : s.link.assembler = .hunting) (hb : b.data ≠ 0xC3) :
    s.takeByte b = s.setLink (hunting s.link) := by
  have htake : s.link.assembler.take b = (.hunting, none) := by
    simp only [ha, Assembler.take, syncByte, hb, if_false]
  simp only [State.takeByte, htake]
  rfl

theorem takeByte_len (ha : s.link.assembler = .length) (hb : b.data.toNat ≤ 120) :
    s.takeByte b = collectingIn s (.body b []) :=
  takeByte_collects (by simp only [ha, Assembler.take, hb, if_true]) rfl

theorem takeByte_tooLong (ha : s.link.assembler = .length) (hb : 120 < b.data.toNat) :
    s.takeByte b = rejected s .length none none := by
  rw [takeByte_ends (a := .hunting) (f := .rejected .length none none)
    (by simp only [ha, Assembler.take, Nat.not_le.2 hb, if_false]), endFrame_rejected]

theorem takeByte_body {len : RxByte} {got : List RxByte} (ha : s.link.assembler = .body len got)
    (h : got.length + 1 < len.data.toNat + 3) : s.takeByte b = collectingIn s (.body len (got ++ [b])) :=
  takeByte_collects
    (by simp only [ha, Assembler.take, List.length_append, List.length_cons, List.length_nil, h, if_true]) rfl

theorem takeByte_complete {len kind tag : RxByte} {payload : List RxByte}
    (ha : s.link.assembler = .body len (kind :: tag :: payload)) (h : payload.length = len.data.toNat) :
    s.takeByte b = s.endFrame (outcomeOf len (kind :: tag :: (payload ++ [b]))) :=
  takeByte_ends (a := .hunting) (by simp [ha, Assembler.take, h])

end

/-! ## A received character (R186, R187, R192) -/

theorem expireGap_of_notPassed {s : State} (h : s.gapPassed = false) : s.expireGap = s := by
  simp only [State.expireGap, h, Bool.false_eq_true, if_false]

theorem gapPassed_of_ended {s : State} (h : s.link.ended ≠ none) : s.gapPassed = false := by
  obtain ⟨f, hf⟩ := Option.ne_none_iff_exists'.1 h
  simp [State.gapPassed, hf]

theorem enterFifo_room {s : State} (b : RxByte) (h : s.link.fifo.length < 64) :
    s.enterFifo b =
      s.setLink
        { s.link with
          fifo := s.link.fifo ++ [b], holdo := s.link.holdo || decide (48 ≤ s.link.fifo.length + 1) } := if_pos h

theorem enterFifo_full {s : State} (b : RxByte) (h : 64 ≤ s.link.fifo.length) :
    s.enterFifo b = s.setLink { s.link with fifo := markNewest s.link.fifo } := if_neg (Nat.not_lt.2 h)

/-- With no frame held the byte at the FIFO's front is taken. -/
theorem drain_cons {s : State} {b : RxByte} {rest : List RxByte} (fuel : Nat) (hended : s.link.ended = none)
    (hfifo : s.link.fifo = b :: rest) :
    State.drain (fuel + 1) s =
      State.drain fuel
        ((s.setLink { s.link with fifo := rest, holdo := s.link.holdo && decide (16 < rest.length) }).takeByte b) := by
  rw [State.drain]
  split
  case h_1 b' rest' _ hfifo' =>
    obtain ⟨rfl, rfl⟩ := List.cons.inj (hfifo.symm.trans hfifo')
    rfl
  case h_2 hno => exact absurd hfifo (hno _ _ hended)

/-- The state with an empty FIFO, and Hold released. -/
def emptied (s : State) : State := s.setLink { s.link with fifo := [], holdo := false }

/-- A character is taken at once where none waits: it passes through the FIFO, with Hold released. -/
theorem receive_taken {s : State} (b : RxByte) (hgap : s.gapPassed = false) (hended : s.link.ended = none)
    (hfifo : s.link.fifo = []) : s.receive b = (emptied s).takeByte b := by
  have hlength : s.link.fifo.length < 64 := by simp [hfifo]
  have hentered : (s.enterFifo b).link.fifo = [b] := by
    rw [enterFifo_room b hlength, hfifo]
    rfl
  rw [State.receive, expireGap_of_notPassed hgap, State.drainFifo, hentered, List.length_singleton,
    drain_cons 0 (by rw [enterFifo_room b hlength]; exact hended) hentered, enterFifo_room b hlength]
  simp only [List.length_nil, Nat.not_lt_zero, decide_false, Bool.and_false]
  rfl

theorem receive_taking {s : State} (b : RxByte) (h : Taking s) : s.receive b = s.takeByte b := by
  obtain ⟨-, -, hended, hfifo, hholdo, hgap⟩ := h
  rw [receive_taken b hgap hended hfifo, emptied, ← hfifo, ← hholdo]
  rfl

theorem enterFifo_ended (s : State) (b : RxByte) : (s.enterFifo b).link.ended = s.link.ended := by
  unfold State.enterFifo
  split <;> rfl

/-- While the assembler holds a frame a character waits. -/
theorem receive_waits {s : State} (b : RxByte) (h : s.link.ended ≠ none) : s.receive b = s.enterFifo b := by
  rw [State.receive, expireGap_of_notPassed (gapPassed_of_ended h)]
  exact State.drain_ended _ _ (by rw [enterFifo_ended]; exact Option.isSome_iff_ne_none.2 h)

theorem markNewest_append (front : List RxByte) (newest : RxByte) :
    markNewest (front ++ [newest]) = front ++ [{ newest with overrun := true }] := by
  induction front with
  | nil => rfl
  | cons x front ih =>
    cases front with
    | nil => rfl
    | cons y front => exact congrArg (x :: ·) ih

section
variable {s : State} (data : Byte) (parityBit stopBit : Bool)

theorem exec_byteReceived (hop : s.supply.operating = true) (hbreak : s.link.inBreak = false) :
    exec (.byteReceived data parityBit stopBit) s =
      .next (s.receive (received data parityBit stopBit)).choose := by
  simp only [exec, execByteReceived, whenOperating_on _ _ hop, hbreak, receivedByte_eq, Bool.false_eq_true, if_false]

theorem exec_byteReceived_inBreak (hop : s.supply.operating = true) (hbreak : s.link.inBreak = true) :
    exec (.byteReceived data parityBit stopBit) s = .next s.choose := by
  simp only [exec, execByteReceived, whenOperating_on _ _ hop, hbreak, if_true]

theorem exec_byteReceived_taking (h : Taking s) :
    exec (.byteReceived data parityBit stopBit) s = .next (s.takeByte (received data parityBit stopBit)).choose := by
  rw [exec_byteReceived _ _ _ h.1 h.2.1, receive_taking _ h]

end

/-- Settles O48: by the assembler's state, or by the FIFO's room while a frame is held. -/
theorem charactersAreTakenOrWait : Obligations.CharactersAreTakenOrWait := by
  refine ⟨fun s data parityBit stopBit htaking => ?_, fun s data parityBit stopBit f hop =>
    ⟨exec_byteReceived_inBreak _ _ _ hop, fun hbreak hended => ?_⟩⟩
  · dsimp only
    have taken {t : State} (h : s.takeByte (received data parityBit stopBit) = t) :
        exec (.byteReceived data parityBit stopBit) s = .next t.choose :=
      h ▸ exec_byteReceived_taking _ _ _ htaking
    refine ⟨fun ha => ⟨fun hdata => ?_, fun hdata => ?_⟩, fun ha => ⟨fun hdata => ?_, fun hdata => ?_⟩,
      fun len got ha hshort => ?_, fun len kind tag payload ha hlength => ?_⟩
    · exact taken (takeByte_sync ha hdata)
    · exact taken (takeByte_noise ha hdata)
    · exact taken (takeByte_len ha hdata)
    · exact taken (takeByte_tooLong ha hdata)
    · exact taken (takeByte_body ha hshort)
    · have ended {f : EndedFrame}
          (h : outcomeOf len (kind :: tag :: (payload ++ [received data parityBit stopBit])) = f) :
          exec (.byteReceived data parityBit stopBit) s = .next (s.endFrame f).choose :=
        h ▸ taken (takeByte_complete ha hlength)
      refine ⟨fun before x after hsplit hbefore => reason_by_mark
        (ends := fun reason =>
          exec (.byteReceived data parityBit stopBit) s =
            .next (rejected s reason (some kind.data) (some tag.data)).choose) fun hx => ?_, fun hunmarked =>
        ⟨fun hsum => ?_, fun hsum => ⟨fun hreply => ?_, fun reply hreply => ?_⟩⟩⟩
      · exact (ended (outcomeOf_marked hsplit hbefore hx)).trans (by rw [endFrame_rejected]; rfl)
      · rw [ended (outcomeOf_check hunmarked hsum), endFrame_rejected]
      · rw [ended (outcomeOf_good hunmarked hsum), endFrame_handedOn _ hreply]
        rfl
      · rw [ended (outcomeOf_good hunmarked hsum), endFrame_held _ hreply]
        rfl
  · dsimp only
    rw [exec_byteReceived _ _ _ hop hbreak, receive_waits _ (by simp [hended])]
    refine ⟨fun hroom => ?_, fun front newest hfifo hfull => ?_⟩
    · rw [enterFifo_room _ hroom]
      rfl
    · rw [enterFifo_full _ hfull, hfifo, markNewest_append]
      rfl

/-! ## Timeouts and commanded rejections (R191, R192, R194; logs 6, 9) -/

section
variable (s : State) (reason : RejectReason) (kind tag : Option Byte)

theorem rejected_fifo : (rejected s reason kind tag).link.fifo = s.link.fifo := by
  unfold rejected
  dsimp only
  split <;> rfl

theorem rejected_assembler : (rejected s reason kind tag).link.assembler = .hunting := by
  unfold rejected
  dsimp only
  split <;> rfl

end

section
variable {s : State} (reason : RejectReason) (kind tag : Option Byte)

theorem rejected_ended_of_noReply (h : s.link.reply = none) :
    (rejected s reason kind tag).link.ended = s.link.ended := by
  simp only [rejected, h, if_true]
  rfl

theorem rejected_ended_of_reply (h : s.link.reply ≠ none) :
    (rejected s reason kind tag).link.ended = some (.rejected reason kind tag) := by
  simp only [rejected, h, if_false]

theorem gapPassed_of_deadline {deadline : Stb} (hcollecting : s.link.assembler.collecting = true)
    (hended : s.link.ended = none) (hdeadline : s.link.gapDeadline = some deadline) (h : deadline < s.stb) :
    s.gapPassed = true := by
  simp [State.gapPassed, hcollecting, hended, hdeadline, h]

theorem not_gapPassed_of_deadline {deadline : Stb} (hdeadline : s.link.gapDeadline = some deadline)
    (h : s.stb ≤ deadline ∨ s.link.assembler = .hunting) : s.gapPassed = false := by
  obtain h | h := h
  · simp [State.gapPassed, hdeadline, h]
  · simp [State.gapPassed, h, Assembler.collecting]

theorem expireGap_of_passed (hpassed : s.gapPassed = true)
    (hbroken : s.link.assembler.broken .timeout = .rejected .timeout kind tag) :
    s.expireGap = rejected s .timeout kind tag := by
  rw [State.expireGap, if_pos hpassed, hbroken, endFrame_rejected]

theorem exec_gapTimeout (hop : s.supply.operating = true) : exec .gapTimeout s = .next s.expireGap.choose :=
  whenOperating_on _ _ hop

theorem exec_frameReject (hop : s.supply.operating = true) :
    exec (.frameReject reason kind tag) s = .next (s.rejectArriving reason kind tag).choose :=
  whenOperating_on s (fun u => u.rejectArriving reason kind tag) hop

/-- While a frame is held, and in a break, FRAME_REJECT finds nothing received. -/
theorem rejectArriving_deaf (h : s.link.inBreak = true ∨ s.link.ended ≠ none) :
    s.rejectArriving reason kind tag = s := by
  refine if_pos ?_
  rw [Bool.or_eq_true, Option.isSome_iff_ne_none]
  exact h.symm

section
variable (hbreak : s.link.inBreak = false) (hended : s.link.ended = none)
include hbreak hended

theorem not_deaf : ¬ (s.link.ended.isSome || s.link.inBreak) = true := by
  simp [hbreak, hended]

/-- The timeout that FRAME_REJECT finds is all that ends. -/
theorem rejectArriving_timedOut
    (h : s.expireGap.link.ended ≠ none ∨ s.gapPassed = true ∧ reason = .timeout) :
    s.rejectArriving reason kind tag = s.expireGap := by
  rw [State.rejectArriving, if_neg (not_deaf hbreak hended)]
  refine if_pos ?_
  rw [Bool.or_eq_true, Option.isSome_iff_ne_none, Bool.and_eq_true, decide_eq_true_iff]
  exact h

section
variable (hexpired : s.expireGap.link.ended = none) (hother : s.gapPassed = false ∨ reason ≠ .timeout)
include hexpired hother

omit hbreak hended in
theorem not_timedOut : ¬ (s.expireGap.link.ended.isSome || (s.gapPassed && reason = .timeout)) = true := by
  rw [hexpired]
  obtain h | h := hother <;> simp [h]

/-- No frame can end so: the command changes nothing more. -/
theorem rejectArriving_undamaged (h : s.expireGap.link.assembler.damaged reason kind tag = none) :
    s.rejectArriving reason kind tag = s.expireGap := by
  rw [State.rejectArriving, if_neg (not_deaf hbreak hended)]
  dsimp only
  rw [if_neg (not_timedOut reason hexpired hother), h]

/-- The damaged frame ends, and with nothing in the FIFO nothing follows it. -/
theorem rejectArriving_damaged {why : RejectReason} {kind' tag' : Option Byte}
    (hfifo : s.expireGap.link.fifo = [])
    (h : s.expireGap.link.assembler.damaged reason kind tag = some (.rejected why kind' tag')) :
    s.rejectArriving reason kind tag = rejected s.expireGap why kind' tag' := by
  rw [State.rejectArriving, if_neg (not_deaf hbreak hended)]
  dsimp only
  rw [if_neg (not_timedOut reason hexpired hother), h]
  dsimp only
  rw [endFrame_rejected]
  exact State.drain_empty _ _ ((rejected_fifo ..).trans hfifo)

end

end

theorem damaged_body {len : RxByte} {got : List RxByte} (htimeout : reason ≠ .timeout) (hlength : reason ≠ .length) :
    (Assembler.body len got).damaged reason kind tag =
      some
        (.rejected ((((len :: got).find? RxByte.marked).map RxByte.reason).getD reason) ((kindTaken got).or kind)
          ((tagTaken got).or tag)) := by
  simp [Assembler.damaged, htimeout, hlength]

theorem damaged_body_early {len : RxByte} {got : List RxByte} (h : reason = .timeout ∨ reason = .length) :
    (Assembler.body len got).damaged reason kind tag = none := by
  obtain rfl | rfl := h <;> rfl

end

/-! ### FRAME_REJECT while characters can be received -/

section
variable {s : State} {reason why : RejectReason} {kind tag kind' tag' : Option Byte} (hop : s.supply.operating = true)
  (hbreak : s.link.inBreak = false) (hended : s.link.ended = none)
include hop hbreak hended

section
variable (hpassed : s.gapPassed = true) (hbroken : s.link.assembler.broken .timeout = .rejected .timeout kind' tag')
include hpassed hbroken

/-- A TIMEOUT commanded is the end of the frame whose deadline has passed; so is another reason's, while that frame is
held (log 9). -/
theorem exec_frameReject_timedOut (h : reason = .timeout ∨ s.link.reply ≠ none) :
    exec (.frameReject reason kind tag) s = .next (rejected s .timeout kind' tag').choose := by
  have hexpire := expireGap_of_passed kind' tag' hpassed hbroken
  have hheld : s.expireGap.link.ended ≠ none ∨ s.gapPassed = true ∧ reason = .timeout := by
    refine h.symm.imp (fun hreply => ?_) fun htimeout => ⟨hpassed, htimeout⟩
    rw [hexpire, rejected_ended_of_reply _ _ _ hreply]
    exact nofun
  rw [exec_frameReject _ _ _ hop, rejectArriving_timedOut _ _ _ hbreak hended hheld, hexpire]

/-- Another reason ends a frame that comes after the one whose deadline has passed (log 9). -/
theorem exec_frameReject_afterTimeout (hother : reason ≠ .timeout) (hreply : s.link.reply = none)
    (hfifo : s.link.fifo = []) :
    exec (.frameReject reason kind tag) s =
      .next (rejected (rejected s .timeout kind' tag') reason kind tag).choose := by
  have hexpire := expireGap_of_passed kind' tag' hpassed hbroken
  have hends := rejectArriving_damaged reason kind tag (why := reason) (kind' := kind) (tag' := tag) hbreak hended
  rw [hexpire, rejected_ended_of_noReply _ _ _ hreply, rejected_fifo, rejected_assembler] at hends
  rw [exec_frameReject _ _ _ hop, hends hended (.inr hother) hfifo rfl]

end

section
variable (hgap : s.gapPassed = false)
include hgap

theorem exec_frameReject_ends (hfifo : s.link.fifo = [])
    (h : s.link.assembler.damaged reason kind tag = some (.rejected why kind' tag')) :
    exec (.frameReject reason kind tag) s = .next (rejected s why kind' tag').choose := by
  have hends := rejectArriving_damaged reason kind tag (why := why) (kind' := kind') (tag' := tag') hbreak hended
  rw [expireGap_of_notPassed hgap] at hends
  rw [exec_frameReject _ _ _ hop, hends hended (.inl hgap) hfifo h]

theorem exec_frameReject_stays (h : s.link.assembler.damaged reason kind tag = none) :
    exec (.frameReject reason kind tag) s = .next s.choose := by
  have hstays := rejectArriving_undamaged reason kind tag hbreak hended
  rw [expireGap_of_notPassed hgap] at hstays
  rw [exec_frameReject _ _ _ hop, hstays hended (.inl hgap) h]

end

end

/-- The frame whose deadline has passed ends TIMEOUT, by GAP_TIMEOUT and by FRAME_REJECT alike (R192; log 9). -/
theorem passed_deadline_ends {s : State} {reason : RejectReason} {kind tag kind' tag' : Option Byte}
    (hop : s.supply.operating = true) (hended : s.link.ended = none) (hfifo : s.link.fifo = [])
    (hpassed : s.gapPassed = true) (hbroken : s.link.assembler.broken .timeout = .rejected .timeout kind' tag') :
    exec .gapTimeout s = .next (rejected s .timeout kind' tag').choose
    ∧ (s.link.inBreak = false →
      (reason = .timeout ∨ s.link.reply ≠ none →
        exec (.frameReject reason kind tag) s = .next (rejected s .timeout kind' tag').choose)
      ∧ (reason ≠ .timeout → s.link.reply = none →
        exec (.frameReject reason kind tag) s =
          .next (rejected (rejected s .timeout kind' tag') reason kind tag).choose)) := by
  refine ⟨?_, fun hbreak => ⟨exec_frameReject_timedOut hop hbreak hended hpassed hbroken, fun hother hreply =>
    exec_frameReject_afterTimeout hop hbreak hended hpassed hbroken hother hreply hfifo⟩⟩
  rw [exec_gapTimeout hop, expireGap_of_passed kind' tag' hpassed hbroken]

/-- Settles O49: a passed deadline first, and else by the assembler's state. -/
theorem damagedFramesAreRejected : Obligations.DamagedFramesAreRejected := by
  intro s reason kind tag hop
  dsimp only
  refine ⟨fun hdeaf => ?_, fun hended hfifo => ⟨fun deadline hdeadline => ?_, fun hbreak hgap => ?_⟩⟩
  · rw [exec_frameReject _ _ _ hop, rejectArriving_deaf _ _ _ hdeaf]
  · refine ⟨fun ha hlate => ?_, fun len got ha hlate => ?_, fun hearly => ?_⟩
    · exact passed_deadline_ends hop hended hfifo (gapPassed_of_deadline (by rw [ha]; rfl) hended hdeadline hlate)
        (by rw [ha]; rfl)
    · exact passed_deadline_ends hop hended hfifo (gapPassed_of_deadline (by rw [ha]; rfl) hended hdeadline hlate)
        (by rw [ha]; rfl)
    · rw [exec_gapTimeout hop, expireGap_of_notPassed (not_gapPassed_of_deadline hdeadline hearly)]
  · have ends {why : RejectReason} {kind' tag' : Option Byte}
        (h : s.link.assembler.damaged reason kind tag = some (.rejected why kind' tag')) :=
      exec_frameReject_ends hop hbreak hended hgap hfifo h
    have stays (h : s.link.assembler.damaged reason kind tag = none) := exec_frameReject_stays hop hbreak hended hgap h
    refine ⟨fun ha => ends (by rw [ha]; rfl), fun ha => ⟨fun htimeout => ?_, fun hother => ?_⟩, fun len got ha =>
      ⟨fun hearly => ?_, fun htimeout hlength => ⟨fun hunmarked => ?_, fun before x after hsplit hbefore => ?_⟩⟩⟩
    · exact stays (by rw [ha, htimeout]; rfl)
    · exact ends (by rw [ha]; exact if_neg hother)
    · exact stays (by rw [ha, damaged_body_early reason kind tag hearly])
    · exact ends (by rw [ha, damaged_body reason kind tag htimeout hlength, find_marked_of_unmarked hunmarked]; rfl)
    · exact reason_by_mark (ends := fun why =>
        exec (.frameReject reason kind tag) s =
          .next (rejected s why ((kindTaken got).or kind) ((tagTaken got).or tag)).choose) fun hx =>
        ends (by
          rw [ha, damaged_body reason kind tag htimeout hlength, hsplit, find_marked_of_earliest after hbefore hx]; rfl)

/-! ## The break (R193; log 11) -/

/-- The link as a break leaves it. -/
def broken (l : Link) : Link :=
  { l with fifo := [], holdo := false, assembler := .hunting, ended := none, gapDeadline := none, inBreak := true }

section
variable {s : State}

theorem exec_lineBreak (hop : s.supply.operating = true) : exec .lineBreak s = .next s.lineBreak.choose :=
  whenOperating_on _ _ hop

theorem lineBreak_inBreak (hbreak : s.link.inBreak = true) : s.lineBreak = s := if_pos hbreak

variable (hbreak : s.link.inBreak = false)
include hbreak

theorem lineBreak_discards (hgap : s.gapPassed = true) : s.lineBreak = s.setLink (broken s.link) := by
  simp only [State.lineBreak, hbreak, hgap, if_true, Bool.false_eq_true, if_false]
  rfl

/-- The break's first character is received, and then what it left of the receiver is cleared. -/
theorem lineBreak_receives {l m : Link} (hgap : s.gapPassed = false) (h : s.receive breakByte = s.setLink l)
    (hcleared : broken l = broken m) : s.lineBreak = s.setLink (broken m) := by
  rw [← hcleared]
  simp only [State.lineBreak, hbreak, hgap, Bool.false_eq_true, if_false, h]
  rfl

theorem lineBreak_held (h : s.link.ended ≠ none) : s.lineBreak = s.setLink (broken s.link) := by
  have hreceive := receive_waits breakByte h
  by_cases hroom : s.link.fifo.length < 64
  · exact lineBreak_receives hbreak (gapPassed_of_ended h) (hreceive.trans (enterFifo_room _ hroom)) rfl
  · exact lineBreak_receives hbreak (gapPassed_of_ended h) (hreceive.trans (enterFifo_full _ (Nat.not_lt.1 hroom))) rfl

/-- A first character that completes no frame is lost with the rest. -/
theorem lineBreak_incomplete (hgap : s.gapPassed = false) (hended : s.link.ended = none) (hfifo : s.link.fifo = [])
    (h : ∀ len got, s.link.assembler = .body len got → got.length + 1 < len.data.toNat + 3) :
    s.lineBreak = s.setLink (broken s.link) := by
  have hreceive := receive_taken breakByte hgap hended hfifo
  cases ha : s.link.assembler with
  | hunting =>
    exact lineBreak_receives hbreak hgap (hreceive.trans (takeByte_noise (s := emptied s) ha (by decide))) rfl
  | length => exact lineBreak_receives hbreak hgap (hreceive.trans (takeByte_len (s := emptied s) ha (by decide))) rfl
  | body len got =>
    exact lineBreak_receives hbreak hgap (hreceive.trans (takeByte_body (s := emptied s) ha (h len got ha))) rfl

omit hbreak in
theorem broken_rejected_emptied (reason : RejectReason) (kind tag : Option Byte) :
    broken (rejected (emptied s) reason kind tag).link = broken (rejected s reason kind tag).link := by
  have hreply : (emptied s).link.reply = s.link.reply := rfl
  unfold rejected
  rw [hreply]
  dsimp only
  split <;> rfl

/-- A frame that its first character completes is rejected before the receiver is cleared. -/
theorem lineBreak_completes (hgap : s.gapPassed = false) (hended : s.link.ended = none) (hfifo : s.link.fifo = [])
    {len kind tag : RxByte} {payload : List RxByte} {reason : RejectReason}
    (ha : s.link.assembler = .body len (kind :: tag :: payload)) (hlength : payload.length = len.data.toNat)
    (h : outcomeOf len (kind :: tag :: (payload ++ [breakByte])) = .rejected reason (some kind.data) (some tag.data)) :
    s.lineBreak = s.setLink (broken (rejected s reason (some kind.data) (some tag.data)).link) := by
  have hreceive := receive_taken breakByte hgap hended hfifo
  rw [takeByte_complete (s := emptied s) ha hlength, h, endFrame_rejected] at hreceive
  exact lineBreak_receives hbreak hgap hreceive (broken_rejected_emptied ..)

end

/-- Settles O50: the deadline passed, a frame held, and else by what the first character completes. -/
theorem breakClearsReceiver : Obligations.BreakClearsReceiver := by
  intro s
  dsimp only
  refine ⟨fun hop hbreak => ?_, fun hop hbreak => ?_, fun hop => ?_, fun hop => ?_⟩
  · have breaks {l : Link} (h : s.lineBreak = s.setLink l) :
        exec .lineBreak s = .next (State.choose { s with link := l }) :=
      (exec_lineBreak hop).trans (by rw [h]; rfl)
    refine ⟨fun hgap => breaks (lineBreak_discards hbreak hgap), fun hgap hfifo => ⟨fun h => ?_,
      fun len kind tag payload hended ha hlength => ?_⟩⟩
    · by_cases hended : s.link.ended = none
      · exact breaks (lineBreak_incomplete hbreak hgap hended (hfifo hended) (h.resolve_left (not_not_intro hended)))
      · exact breaks (lineBreak_held hbreak hended)
    · have completes {reason : RejectReason} (h : outcomeOf len (kind :: tag :: (payload ++ [breakByte])) =
          .rejected reason (some kind.data) (some tag.data)) :=
        breaks (lineBreak_completes hbreak hgap hended (hfifo hended) ha hlength h)
      refine ⟨fun hunmarked => completes (outcomeOf_marked (after := []) rfl hunmarked rfl),
        fun before x after hsplit hbefore => reason_by_mark (ends := fun reason => exec .lineBreak s = .next
          (State.choose { s with link := broken (rejected s reason (some kind.data) (some tag.data)).link })) fun hx =>
        completes (outcomeOf_marked (after := after ++ [breakByte]) ?_ hbefore hx)⟩
      simpa using congrArg (· ++ [breakByte]) hsplit
  · rw [exec_lineBreak hop, lineBreak_inBreak hbreak]
  · exact atAnyTime_on s (fun u => u.setLink { u.link with inBreak := false }) hop
  · exact atAnyTime_off s (fun u => u.setLink { u.link with inBreak := false }) hop

/-! ## A sent frame on the line (R186; log 10) -/

theorem characterBits_length (b : Byte) : (characterBits b).length = 11 := by
  simp [characterBits]

theorem characterBits_getElem? (b : Byte) {i : Nat} (hi : i < 11) :
    (characterBits b)[i]? =
      some
        (if i = 0 then false
         else if i = 9 then decide (onesBelow b 8 % 2 = 1)
         else if i = 10 then true
         else b.getLsbD (i - 1)) := by
  match i, hi with
  | 0, _ | 1, _ | 2, _ | 3, _ | 4, _ | 5, _ | 6, _ | 7, _ | 8, _ | 9, _ | 10, _ => rfl

theorem length_flatMap_of_length {α β : Type} {f : α → List β} {k : Nat} (hf : ∀ a, (f a).length = k) (l : List α) :
    (l.flatMap f).length = l.length * k := by
  induction l with
  | nil => exact (Nat.zero_mul k).symm
  | cons a l ih => rw [List.flatMap_cons, List.length_append, hf, ih, List.length_cons, Nat.succ_mul, Nat.add_comm]

/-- Where every part has one length, an index names its part and its place there. -/
theorem getElem?_flatMap_of_length {α β : Type} {f : α → List β} {k : Nat} (hf : ∀ a, (f a).length = k) (l : List α)
    (j : Nat) {i : Nat} (hi : i < k) : (l.flatMap f)[k * j + i]? = l[j]?.bind fun a => (f a)[i]? := by
  induction l generalizing j with
  | nil => rfl
  | cons a l ih =>
    rw [List.flatMap_cons]
    cases j with
    | zero =>
      rw [Nat.mul_zero, Nat.zero_add, List.getElem?_append_left ((hf a).symm ▸ hi)]
      rfl
    | succ j =>
      have hplace : k * (j + 1) + i = k + (k * j + i) := by rw [Nat.mul_succ]; omega
      rw [hplace, ← hf a, List.getElem?_append_right (Nat.le_add_right ..), Nat.add_sub_cancel_left, hf a, ih j]
      rfl

theorem frame_bytes_length (f : Frame) : f.bytes.length = f.payload.length + 5 := by
  simp [Frame.bytes, frameBytes]

theorem lineBits_length (f : Frame) : f.lineBits.length = (f.payload.length + 5) * 11 := by
  rw [Frame.lineBits, length_flatMap_of_length characterBits_length, frame_bytes_length]

/-- Nothing is left to send: TXD is at mark. -/
theorem txd_sent (f : Frame) (isReply : Bool) : Transmitter.txd (.sending f isReply 0) = true := by
  have hpast : f.lineBits[(frameTime f - 0) / 1000]? = none := by
    rw [List.getElem?_eq_none_iff, lineBits_length, frameTime]
    omega
  simp only [Transmitter.txd, hpast, Option.getD_none]

/-- TXD in bit `i` of character `j`, with `r` thousandths of the bit sent. -/
theorem txd_sending (f : Frame) (isReply : Bool) {j i r : Nat} {b : Byte} (hb : f.bytes[j]? = some b) (hi : i < 11)
    (hr : r < 1000) :
    Transmitter.txd (.sending f isReply ((f.payload.length + 5) * 11000 - ((11 * j + i) * 1000 + r))) =
      if i = 0 then false
      else if i = 9 then decide (onesBelow b 8 % 2 = 1)
      else if i = 10 then true
      else b.getLsbD (i - 1) := by
  have hj : j < f.payload.length + 5 := frame_bytes_length f ▸ (List.getElem?_eq_some_iff.1 hb).1
  have hindex :
      (frameTime f - ((f.payload.length + 5) * 11000 - ((11 * j + i) * 1000 + r))) / 1000 = 11 * j + i := by
    rw [frameTime]
    omega
  have hbit : f.lineBits[11 * j + i]? = (characterBits b)[i]? := by
    rw [Frame.lineBits, getElem?_flatMap_of_length characterBits_length _ _ hi, hb]
    rfl
  rw [Transmitter.txd, hindex, hbit, characterBits_getElem? b hi]
  rfl

/-! ## The FIFO is left to its receiver (R187) -/

theorem answer_fifo (kind : Byte) (p : List Byte) (s : State) :
    (answer kind p s).state.link.fifo = s.link.fifo := by
  cases h : ReqKind.ofCode kind with
  | none => rw [answer_noKind p s h]; rfl
  | some k =>
    obtain rfl := eq_code_of_ofCode h
    cases hlength : lengthRight k p.length with
    | false => rw [answer_badLength s hlength]; rfl
    | true =>
      rw [answer_block s hlength]
      by_cases hrestart : k = .restart
      · subst hrestart
        rfl
      · rw [(blockAnswer_settles k p s).link_eq (by simp [requestParts, hrestart])]

theorem handOn_fifo (s : State) (f : EndedFrame) : (s.handOn f).link.fifo = s.link.fifo := by
  cases f with
  | good kind tag payload => exact answer_fifo kind payload s
  | rejected => rfl

theorem endFrame_fifo (s : State) (f : EndedFrame) : (s.endFrame f).link.fifo = s.link.fifo := by
  cases h : s.link.reply with
  | none => rw [endFrame_handedOn f h, handOn_fifo]; rfl
  | some reply => rw [endFrame_held f h]; rfl

theorem takeByte_fifo (s : State) (b : RxByte) : (s.takeByte b).link.fifo = s.link.fifo := by
  unfold State.takeByte
  split
  · exact endFrame_fifo ..
  · rfl

theorem drainFifo_done {s : State} (h : s.link.ended ≠ none ∨ s.link.fifo = []) : s.drainFifo = s := by
  obtain h | h := h
  · exact State.drain_ended _ _ (Option.isSome_iff_ne_none.2 h)
  · exact State.drain_empty _ _ h

theorem drainFifo_cons {s : State} {b : RxByte} {rest : List RxByte} (hended : s.link.ended = none)
    (hfifo : s.link.fifo = b :: rest) :
    s.drainFifo =
      ((s.setLink { s.link with fifo := rest, holdo := s.link.holdo && decide (16 < rest.length) }).takeByte
        b).drainFifo := by
  rw [State.drainFifo, State.drainFifo, takeByte_fifo, hfifo]
  exact drain_cons _ hended hfifo

/-! ## The end of a transmitted frame (R196) -/

/-- The state after a reply's last stop bit: the transmitter IDLE, the reply buffer and the assembler's hold empty. -/
def freed (s : State) : State := { s with link := { s.link with transmitter := .idle, reply := none, ended := none } }

section
variable {s : State}

theorem sendingReply_of_sending {f : Frame} {isReply : Bool} {left : Nat}
    (h : s.link.transmitter = .sending f isReply left) : s.sendingReply = isReply := by
  simp only [State.sendingReply, h]

theorem exec_transmitFrameEnd (hop : s.supply.operating = true) (h : s.restartReady = false) :
    exec .transmitFrameEnd s = .next s.frameSent.choose := by
  simp only [exec, execTransmitFrameEnd, h, Bool.and_false, Bool.false_eq_true, if_false, whenOperating_on _ _ hop]

theorem frameSent_noReply (h : s.sendingReply = false) :
    s.frameSent = s.setLink { s.link with transmitter := .idle } := by
  simp only [State.frameSent, h, Bool.false_eq_true, if_false]

theorem frameSent_reply (h : s.sendingReply = true) (hended : s.link.ended = none) :
    s.frameSent = (freed s).drainFifo := by
  have hfreed : freed s = s.setLink { s.link with transmitter := .idle, reply := none } := by
    rw [freed, ← hended]
    rfl
  simp only [State.frameSent, h, if_true, State.setLink_link, hended, hfreed]

theorem frameSent_reply_held {f : EndedFrame} (h : s.sendingReply = true) (hended : s.link.ended = some f) :
    s.frameSent = ((freed s).handOn f).drainFifo := by
  simp only [State.frameSent, h, if_true, State.setLink_link, hended]
  rfl

end

theorem choose_reply {s : State} {f : Frame} (hidle : s.link.transmitter = .idle) (hreply : s.link.reply = some f) :
    s.choose = s.setLink { s.link with transmitter := .sending f true (frameTime f) } := by
  simp only [State.choose, hidle, hreply]

theorem choose_notice {s : State} {n : Notice} {rest : List Notice} (hidle : s.link.transmitter = .idle)
    (hreply : s.link.reply = none) (hwaiting : s.notices.waiting = n :: rest) :
    s.choose =
      (s.setLink { s.link with transmitter := .sending n.frame false (frameTime n.frame) }).setNotices
        { s.notices with waiting := rest } := by
  simp only [State.choose, hidle, hreply, hwaiting]

/-- Settles O51: the choice by what waits, the end by what was sent and held, and the line's bits. -/
theorem transmitterChoosesAndIsFreed : Obligations.TransmitterChoosesAndIsFreed := by
  refine ⟨fun s => ⟨fun f isReply left hsending => ?_, fun hidle => ⟨fun f hreply => ?_, fun hreply =>
    ⟨fun hwaiting => ?_, fun n rest hwaiting => ?_⟩⟩⟩, fun s f left hop => ?_⟩
  · exact State.choose_idle s (by simp only [State.choiceWaits, hsending])
  · rw [choose_reply hidle hreply, frameTime, Nat.mul_assoc]
    rfl
  · exact State.choose_idle s (by simp [State.choiceWaits, hidle, hreply, hwaiting])
  · rw [choose_notice hidle hreply hwaiting, frameTime, Nat.mul_assoc]
    rfl
  · dsimp only
    have ends {t : State} (hnot : s.restartReady = false) (h : s.frameSent = t) :
        exec .transmitFrameEnd s = .next t.choose :=
      h ▸ exec_transmitFrameEnd hop hnot
    refine ⟨fun hidle => ?_, fun hnotice => ?_, fun hsending hpending => ?_, drainFifo_done,
      fun b rest => drainFifo_cons, fun data parityBit stopBit => exec_byteReceived_taking data parityBit stopBit, rfl,
      txd_sent f true, fun isReply j i r b hb hi hr => txd_sending f isReply hb hi hr⟩
    · have hnone : s.sendingReply = false := by simp only [State.sendingReply, hidle]
      refine ends (by simp only [State.restartReady, hnone, Bool.false_and]) ((frameSent_noReply hnone).trans ?_)
      rw [← hidle]
      rfl
    · have hnone := sendingReply_of_sending hnotice
      exact ends (by simp only [State.restartReady, hnone, Bool.false_and]) (frameSent_noReply hnone)
    · have hreply := sendingReply_of_sending hsending
      have hnot : s.restartReady = false := by simp only [State.restartReady, hpending, Bool.and_false]
      exact ⟨fun hended => ends hnot (frameSent_reply hreply hended),
        fun kind tag payload hended => ends hnot (frameSent_reply_held hreply hended),
        fun reason kind tag hended => ends hnot (frameSent_reply_held hreply hended)⟩

/-! ## The bytes of a good frame (R189 to R191; log 5) -/

theorem quiet_iff {l : Link} :
    l.quiet = true ↔
      l.assembler = .hunting ∧ l.ended = none ∧ l.fifo = [] ∧ l.reply = none ∧ l.inBreak = false := by
  simp [Link.quiet, and_assoc]

theorem hunting_of_clear {l : Link} (ha : l.assembler = .hunting) (hdeadline : l.gapDeadline = none) :
    hunting l = l := by
  rw [hunting, ← ha, ← hdeadline]

theorem unmarked_clean (l : List Byte) : Unmarked (l.map cleanByte) := by
  intro y hy
  obtain ⟨b, -, rfl⟩ := List.mem_map.1 hy
  exact ⟨rfl, rfl, rfl⟩

theorem data_clean (l : List Byte) : (l.map cleanByte).map RxByte.data = l := by
  rw [List.map_map]
  exact List.map_id l

/-- CHECK makes the sum of the bytes from LEN on zero (R189). -/
theorem checked_sum (len kind tag : Byte) (payload : List Byte) :
    (len :: kind :: tag :: (payload ++ [checkByte len kind tag payload])).foldl (· + ·) 0 = 0 := by
  have hlen : 0 + len = len := BitVec.zero_add len
  simp only [List.foldl_cons, List.foldl_append, List.foldl_nil, checkByte, hlen]
  exact BitVec.add_right_neg _

/-- The undamaged bytes of a frame, from LEN to CHECK, end in the good frame. -/
theorem outcomeOf_clean (len kind tag : Byte) (payload : List Byte) :
    outcomeOf (cleanByte len)
        (cleanByte kind :: cleanByte tag
          :: (payload.map cleanByte ++ [cleanByte (checkByte len kind tag payload)])) =
      .good kind tag payload := by
  have hwhole : cleanByte len :: cleanByte kind :: cleanByte tag
      :: (payload.map cleanByte ++ [cleanByte (checkByte len kind tag payload)]) =
      (len :: kind :: tag :: (payload ++ [checkByte len kind tag payload])).map cleanByte := by
    simp only [List.map_cons, List.map_append, List.map_nil]
  rw [outcomeOf_good (hwhole ▸ unmarked_clean _) (by rw [hwhole, data_clean, checked_sum]), data_clean]
  rfl

/-- A part that operates, with a quiet link that has nothing to send: only what arrives changes it. -/
structure AtRest (s : State) : Prop where
  listening : Listening s
  holdo : s.link.holdo = false
  gapDeadline : s.link.gapDeadline = none
  choiceWaits : s.choiceWaits = false

section
variable {s : State} (h : AtRest s)
include h

theorem AtRest.taking : Taking s := by
  obtain ⟨ha, hended, hfifo, -, hbreak⟩ := quiet_iff.1 h.listening.2
  exact ⟨h.listening.1, hbreak, hended, hfifo, h.holdo, by simp [State.gapPassed, ha, Assembler.collecting]⟩

theorem AtRest.taking_collectingIn (a : Assembler) : Taking (collectingIn s a) := by
  obtain ⟨hop, hbreak, hended, hfifo, hholdo, -⟩ := h.taking
  exact ⟨hop, hbreak, hended, hfifo, hholdo,
    not_gapPassed_of_deadline (s := collectingIn s a) rfl (.inl (Nat.le_add_right ..))⟩

theorem AtRest.choose_collectingIn (a : Assembler) : (collectingIn s a).choose = collectingIn s a :=
  State.choose_idle _ h.choiceWaits

/-! `hear` hears one undamaged character after another; only what it does to a next state matters. -/

section
variable {hear : Out → Byte → Out}
  (hhear : ∀ u b, hear (.next u) b = exec (.byteReceived b (decide (onesBelow b 8 % 2 = 1)) true) u)
include hhear

omit h in
theorem hear_taking {u : State} (b : Byte) (hu : Taking u) :
    hear (.next u) b = .next (u.takeByte (cleanByte b)).choose := by
  rw [hhear, exec_byteReceived_taking _ _ _ hu, received_undamaged]

/-- A byte that leaves the assembler collecting leaves the rest of the part at rest. -/
theorem hear_collects {a a' : Assembler} {b : Byte}
    (htake : (collectingIn s a).takeByte (cleanByte b) = collectingIn (collectingIn s a) a') :
    hear (.next (collectingIn s a)) b = .next (collectingIn s a') := by
  rw [hear_taking hhear b (h.taking_collectingIn a), htake]
  exact congrArg _ (h.choose_collectingIn a')

/-- Bytes short of a whole frame collect in BODY (R190). -/
theorem foldl_hear_body (len : RxByte) (bytes : List Byte) (got : List RxByte)
    (hshort : got.length + bytes.length < len.data.toNat + 3) :
    bytes.foldl hear (.next (collectingIn s (.body len got))) =
      .next (collectingIn s (.body len (got ++ bytes.map cleanByte))) := by
  induction bytes generalizing got with
  | nil => simp
  | cons b bytes ih =>
    have hone : got.length + 1 < len.data.toNat + 3 := by simp only [List.length_cons] at hshort; omega
    have hrest : (got ++ [cleanByte b]).length + bytes.length < len.data.toNat + 3 := by
      simp only [List.length_append, List.length_cons, List.length_nil] at hshort ⊢
      omega
    rw [List.foldl_cons, hear_collects h hhear (takeByte_body (s := collectingIn s _) rfl hone), ih _ hrest,
      List.map_cons, List.append_assoc]
    rfl

/-- SYNC, and then a LEN of at most 120, open a frame (R190). -/
theorem hear_opening {len : Byte} (hlen : len.toNat ≤ 120) :
    hear (hear (.next s) syncByte) len = .next (collectingIn s (.body (cleanByte len) [])) := by
  have hhunting := (quiet_iff.1 h.listening.2).1
  have hsync : hear (.next s) syncByte = .next (collectingIn s .length) := by
    rw [hear_taking hhear syncByte h.taking, takeByte_sync hhunting rfl, h.choose_collectingIn]
  rw [hsync]
  exact hear_collects h hhear (takeByte_len (s := collectingIn s .length) rfl hlen)

/-- CHECK ends the frame, which is handed over as if nothing had been collected (R191, R194). -/
theorem hear_check {kind tag : Byte} {payload : List Byte} {len : Byte} (hlen : len.toNat = payload.length) :
    hear
        (.next
          (collectingIn s (.body (cleanByte len) (cleanByte kind :: cleanByte tag :: payload.map cleanByte))))
        (checkByte len kind tag payload) =
      .next (s.handleRequest kind tag payload).choose := by
  obtain ⟨hhunting, -, -, hreply, -⟩ := quiet_iff.1 h.listening.2
  have hclear (a : Assembler) : (collectingIn s a).setLink (hunting (collectingIn s a).link) = s :=
    congrArg s.setLink (hunting_of_clear hhunting h.gapDeadline)
  rw [hear_taking hhear _ (h.taking_collectingIn _),
    takeByte_complete (s := collectingIn s _) rfl (by rw [List.length_map]; exact hlen.symm), outcomeOf_clean,
    endFrame_handedOn (s := collectingIn s _) _ hreply, hclear]
  rfl

/-- A frame's bytes, heard one by one, leave what its request leaves. -/
theorem foldl_hear_frameBytes (kind tag : Byte) {payload : List Byte} (hfits : payload.length ≤ 120) :
    (frameBytes kind tag payload).foldl hear (.next s) = .next (s.handleRequest kind tag payload).choose := by
  have hlen : (BitVec.ofNat 8 payload.length).toNat = payload.length := by
    rw [BitVec.toNat_ofNat]
    omega
  have hshort : ([] : List RxByte).length + (kind :: tag :: payload).length <
      (cleanByte (BitVec.ofNat 8 payload.length)).data.toNat + 3 := by
    simp only [cleanByte, hlen, List.length_cons, List.length_nil]
    omega
  rw [frameBytes, List.foldl_cons, List.foldl_cons, hear_opening h hhear (Nat.le_trans (Nat.le_of_eq hlen) hfits),
    ← List.cons_append, ← List.cons_append, List.foldl_append, foldl_hear_body h hhear _ (kind :: tag :: payload) [] hshort]
  exact hear_check h hhear hlen

end

end

/-- Settles O52: the bytes and the command leave what the Request Handler leaves of the frame. -/
theorem goodFrameIsRequest : Obligations.GoodFrameIsRequest := by
  intro s kind tag payload hl hholdo hdeadline hwaits hfits
  have hrest : AtRest s := ⟨hl, hholdo, hdeadline, hwaits⟩
  exact (foldl_hear_frameBytes hrest (fun _ _ => rfl) kind tag hfits).trans
    (exec_commandOf_listening kind tag payload hl).symm

end Sys2Proof.MessageLink
end

section
/-! SUPPORT. The family of retention and restart: what stops and abandoned starts leave of the supplies and outputs, and
the warm start, from its retained blocks to START being sent. -/

namespace Sys2Proof.Retention

open Sys2Proof.Machine

/-! ## Stops (R202, R203) -/

theorem stopOperation_outputsOff (s : State) :
    s.stopOperation = outputsOff s { s.supply with operating := false, starting := none } := rfl

theorem exec_mainPowerFail (s : State) :
    exec .mainPowerFail s =
      .next
        (outputsOff s
          { s.supply with
            mainInRange := false, starting := none
            retentionLost := s.supply.retentionLost || s.supply.vbakLow }) := by
  simp only [exec, execMainPowerFail, stopOperation_outputsOff]
  rfl

theorem exec_rstnLow (s : State) :
    exec .rstnLow s = .next (outputsOff s { s.supply with rstnHigh := false, starting := none }) := by
  simp only [exec, execRstnLow, stopOperation_outputsOff]
  rfl

theorem exec_vbakLow (s : State) :
    exec .vbakLow s =
      .next
        { s with
          supply :=
            { s.supply with
              vbakLow := true, retentionLost := s.supply.retentionLost || !s.supply.mainInRange } } := by
  simp only [exec, execVbakLow, Supply.watchRetention, Bool.and_true]
  rfl

/-! ## A start's work before operation (R206, steps 3 to 7) -/

/-- The part with its retained blocks done, after steps 4 to 6 of a start and before its notices. -/
def rested (s : State) (cause : StartCause) (straps : BitVec 2) : State :=
  let s := s.setSupply
    { s.supply with operating := false, starting := some straps, retentionLost := false, startCause := cause }
  ((((s.setStb 0).setRefillDue false).restPerformance.restStriking).restLink straps).readLines

theorem prepareStart_eq (s : State) (cause : StartCause) (straps : BitVec 2) :
    s.prepareStart cause straps =
      (rested (if cause = .cold then s.coldRetained else s.warmRetained) cause straps).announceStart cause := rfl

theorem railLevelOf_fail (low failing : Bool) : decide (railLevelOf low failing = .fail) = failing := by
  cases failing <;> cases low <;> rfl

/-- The levels of the lines as read, and the rail level and the hold sources that follow (R100, R157, R163). -/
theorem readLines_eq (s : State) :
    s.readLines =
      (s.setReservoir
        { s.reservoir with
          low := s.reservoir.low.asRead, failing := s.reservoir.failing.asRead
          rail := railLevelOf s.reservoir.low.line s.reservoir.failing.line }).setEngine
        { s.engine with
          ilock := s.engine.ilock.asRead, interlock := s.engine.ilock.line, fail := s.reservoir.failing.line } :=
  congrArg
    (fun fail => (s.setReservoir _).setEngine
      { s.engine with ilock := s.engine.ilock.asRead, interlock := s.engine.ilock.line, fail := fail })
    (railLevelOf_fail s.reservoir.low.line s.reservoir.failing.line)

/-- What a start makes of every block, with the retained blocks done (R100, R125, R151, R163, R185, R200). -/
theorem rested_eq (s : State) (cause : StartCause) (straps : BitVec 2) :
    rested s cause straps =
      { s with
        stb := 0
        refillDue := false
        supply :=
          { s.supply with operating := false, starting := some straps, retentionLost := false, startCause := cause }
        cues := { waiting := [], nextId := 1 }
        engine :=
          { s.engine with
            state := .idle, current := none, held := none, holdStart := 0, settle := none
            ilock := s.engine.ilock.asRead, interlock := s.engine.ilock.line, fail := s.reservoir.failing.line }
        planner :=
          { state := .idle, stint := none, stall := none, log := [], phrase := 0, shadow := Vector.replicate 64 0 }
        queue := []
        channels := s.bells.map fun r => restChannel r.startState
        reservoir :=
          { s.reservoir with
            charge := 0, testDraw := none, low := s.reservoir.low.asRead, failing := s.reservoir.failing.asRead
            rail := railLevelOf s.reservoir.low.line s.reservoir.failing.line }
        monitor :=
          { s.monitor with
            windows := Vector.replicate 64 none, inputs := s.monitor.inputs.map ImpactInput.idle, test := none }
        link :=
          { fifo := [], holdo := false, assembler := .hunting, ended := none, gapDeadline := none, reply := none
            transmitter := .idle, straps := straps, rate := rateOfStraps straps, inBreak := s.link.inBreak
            restartPending := false } } := by
  rw [rested, readLines_eq]
  rfl

/-- The notices a start announces: START, and HOLD behind it with a source present; the source holds the engine. -/
theorem announceStart_eq (s : State) (cause : StartCause) :
    s.announceStart cause =
      { s with
        notices :=
          { waiting :=
              .start cause ::
                (if s.engine.sourcePresent then [.hold true s.engine.interlock s.engine.fail] else [])
            overflow := false }
        engine := { s.engine with state := if s.engine.sourcePresent then .held else s.engine.state } } := by
  unfold State.announceStart
  cases h : s.engine.sourcePresent
  · simp only [State.setNotices_engine, h, Bool.false_eq_true, if_false]
    rfl
  · simp only [State.setNotices_engine, h, if_true]
    rfl

/-- A prepared start is stopped with the latch clear, whatever its kind (R204). -/
theorem prepareStart_supply (s : State) (cause : StartCause) (straps : BitVec 2) :
    (s.prepareStart cause straps).supply =
      { s.supply with operating := false, starting := some straps, retentionLost := false, startCause := cause } := by
  rw [prepareStart_eq, announceStart_eq]
  split <;> rfl

theorem prepareStart_transmitter (s : State) (cause : StartCause) (straps : BitVec 2) :
    (s.prepareStart cause straps).link.transmitter = .idle := by
  rw [prepareStart_eq, announceStart_eq]
  rfl

theorem prepareStart_gate (s : State) (cause : StartCause) (straps : BitVec 2) (b : Bell) :
    (s.prepareStart cause straps).channels[b].gate = false := by
  rw [prepareStart_eq, announceStart_eq, rested_eq]
  simp [restChannel]

/-! ## The commands that start the part (R204, R205; logs 15, 16) -/

/-- The supplies once main power and RSTN have both returned. -/
def returned (x : Supply) (vbakLow : Bool) : Supply :=
  { x with mainInRange := true, rstnHigh := true, vbakLow := vbakLow }

section
variable {s : State}

theorem exec_resetPinStart (i : StartInputs) (hmain : s.supply.mainInRange = true) (hrstn : s.supply.rstnHigh = false) :
    exec (.resetPinStart i) s = .next ((s.setSupply (returned s.supply i.vbakLow)).start s.powerCause i) := by
  have hback : Supply.watchRetention { s.supply with rstnHigh := true, vbakLow := i.vbakLow }
      = returned s.supply i.vbakLow := by
    rw [returned, ← hmain]
    exact Supply.watchRetention_inRange _ hmain
  simp only [exec, execResetPinStart, hrstn, hback, Bool.false_eq_true, if_false]
  rfl

theorem exec_powerOnStart (i : StartInputs) (hmain : s.supply.mainInRange = false) (hrstn : s.supply.rstnHigh = true) :
    exec (.powerOnStart i) s = .next ((s.setSupply (returned s.supply i.vbakLow)).start s.powerCause i) := by
  have hback : { s.supply with mainInRange := true, vbakLow := i.vbakLow } = returned s.supply i.vbakLow := by
    rw [returned, ← hrstn]
  simp only [exec, execPowerOnStart, hmain, hback, Bool.false_eq_true, if_false]
  rfl

theorem powerCause_warm (h : s.supply.retentionLost = false) : s.powerCause = .warm := by
  simp [State.powerCause, h]

theorem restartReady_of_sending {f : Frame} {left : Nat} (hsending : s.link.transmitter = .sending f true left)
    (hpending : s.link.restartPending = true) : s.restartReady = true := by
  rw [State.restartReady, MessageLink.sendingReply_of_sending hsending, hpending]
  rfl

theorem exec_restartTakesEffect (i : StartInputs) (hop : s.supply.operating = true) (h : s.restartReady = true) :
    exec (.restartTakesEffect i) s =
      .next ((s.setSupply { s.supply with vbakLow := i.vbakLow }).start .restart i) := by
  simp [exec, execRestartTakesEffect, hop, h]

theorem exec_transmitFrameEnd_restart (hop : s.supply.operating = true) (h : s.restartReady = true) :
    exec .transmitFrameEnd s = .next (s.startSequence .restart s.link.straps) := by
  simp [exec, execTransmitFrameEnd, hop, h]

end

/-! ## Abandoned starts (R204; log 15) -/

theorem beginStart_outputsOff (s : State) (x : Supply) (cause : StartCause) (straps : BitVec 2) :
    (s.setSupply x).beginStart cause straps = outputsOff s { x with starting := some straps, startCause := cause } := by
  rw [State.beginStart, stopOperation_outputsOff]
  rfl

/-- A start of a part whose latch is clear, cut off by RSTN before operation, leaves the latch clear. -/
theorem rstnLow_abandons (s : State) (cause : StartCause) (i : StartInputs) (hreach : i.reach ≠ .completed)
    (hlatch : s.supply.retentionLost = false) :
    ∃ u, exec .rstnLow (s.start cause i) = .next u
      ∧ u.supply = { s.supply with operating := false, rstnHigh := false, starting := none, startCause := cause } := by
  refine ⟨_, exec_rstnLow _, ?_⟩
  cases h : i.reach with
  | completed => exact absurd h hreach
  | begun => simp only [State.start, h]; rfl
  | prepared => simp only [State.start, h, outputsOff, prepareStart_supply, ← hlatch]

/-! ## The warm start (R206) -/

/-- Operation begins after the announcement: START is being sent, and HOLD alone may still wait (R206, R207). -/
theorem announceStart_choose {s : State} (cause : StartCause) (x : Supply) (hidle : s.link.transmitter = .idle)
    (hreply : s.link.reply = none) :
    ((s.announceStart cause).setSupply x).choose =
      { s with
        supply := x
        link :=
          { s.link with
            transmitter := .sending { kind := 0xE0, tag := 0, payload := [cause.code] } false 66000 }
        notices :=
          { waiting := if s.engine.sourcePresent then [.hold true s.engine.interlock s.engine.fail] else []
            overflow := false }
        engine := { s.engine with state := if s.engine.sourcePresent then .held else s.engine.state } } := by
  rw [announceStart_eq]
  refine Eq.trans (MessageLink.choose_notice hidle hreply rfl) ?_
  have htime : frameTime (Notice.start cause).frame = 66000 := by simp [frameTime, Notice.frame, Notice.payload]
  rw [htime]
  rfl

theorem startSequence_warm (s : State) {cause : StartCause} (straps : BitVec 2) (h : cause ≠ .cold) :
    s.startSequence cause straps =
      (((rested s.warmRetained cause straps).announceStart cause).setSupply
        { s.supply with operating := true, starting := none, retentionLost := false, startCause := cause }).choose := by
  rw [State.startSequence, prepareStart_supply, prepareStart_eq, if_neg h]

theorem slot_afterWarm_loading {x : Slot} (h : x.state = .loading) : x.afterWarm = emptySlot := by
  simp only [Slot.afterWarm, h]

theorem slot_afterWarm_loaded {x : Slot} (h : x.state ≠ .loading) : x.afterWarm = { x with refCount := 0 } := by
  cases hx : x.state with
  | loading => exact absurd hx h
  | empty | ready => simp only [Slot.afterWarm, hx]

/-- A warm start leaves every block as its chapter says, with the supplies it was given. -/
theorem startSequence_warmStarted (s : State) (x : Supply) {cause : StartCause} (straps : BitVec 2) (h : cause ≠ .cold)
    (hmain : x.mainInRange = true) (hrstn : x.rstnHigh = true) :
    WarmStarted s ((s.setSupply x).startSequence cause straps) cause straps x.vbakLow := by
  rw [startSequence_warm _ straps h, rested_eq, announceStart_choose _ _ rfl rfl]
  exact
    { pending := rfl
      stb := ⟨rfl, rfl, rfl⟩
      supply := ⟨rfl, hmain, hrstn, rfl, rfl, rfl, rfl⟩
      calendar := rfl
      records := rfl
      loading := fun i hi => (Vector.getElem_map ..).trans (slot_afterWarm_loading hi)
      loaded := fun i hi => (Vector.getElem_map ..).trans (slot_afterWarm_loaded hi)
      schedule := fun i => Vector.getElem_map ..
      bells := rfl
      settings := ⟨rfl, rfl, rfl, rfl⟩
      cues := rfl
      performance := ⟨rfl, rfl, rfl, rfl⟩
      planner := ⟨rfl, rfl, rfl, rfl, rfl, fun b => Vector.getElem_replicate ..⟩
      queue := rfl
      channels := fun b => Vector.getElem_map ..
      charge := ⟨rfl, rfl⟩
      windows := ⟨rfl, fun b => Vector.getElem_replicate ..⟩
      inputs := fun b => Vector.getElem_map ..
      sense := ⟨rfl, rfl⟩
      link := ⟨rfl, rfl, rfl, rfl, rfl, rfl, rfl, rfl, rfl, rfl, rfl⟩
      debouncers := ⟨rfl, rfl, rfl⟩
      lines := ⟨rfl, rfl, rfl⟩
      announced := rfl
      engine := rfl }

/-- A command by which both supplies return to a part with the latch clear: completed it is the warm start, and cut off
by RSTN it leaves the latch clear. -/
theorem returned_startsWarm {s : State} {c : StartInputs → Instr} (straps : BitVec 2) (vbakLow : Bool)
    (hc : ∀ i, exec (c i) s = .next ((s.setSupply (returned s.supply i.vbakLow)).start s.powerCause i))
    (hlatch : s.supply.retentionLost = false) :
    (∃ t, exec (c { straps := straps, vbakLow := vbakLow, reach := .completed }) s = .next t
        ∧ WarmStarted s t .warm straps vbakLow)
      ∧ ∀ reach, reach ≠ .completed →
        ∃ t u, exec (c { straps := straps, vbakLow := vbakLow, reach := reach }) s = .next t ∧ exec .rstnLow t = .next u
          ∧ u.supply =
            { s.supply with
              operating := false, mainInRange := true, rstnHigh := false, vbakLow := vbakLow, starting := none
              startCause := .warm } := by
  rw [powerCause_warm hlatch] at hc
  refine ⟨⟨_, hc _, startSequence_warmStarted s (returned s.supply vbakLow) straps (by decide) rfl rfl⟩,
    fun reach hreach => ?_⟩
  obtain ⟨u, hu, hsupply⟩ := rstnLow_abandons (s.setSupply (returned s.supply vbakLow)) .warm
    { straps := straps, vbakLow := vbakLow, reach := reach } hreach hlatch
  exact ⟨_, u, hc _, hu, hsupply⟩

/-! ## The obligations -/

/-- Settles O4: each command that begins a warm start hands the same state to the start it names. -/
theorem warmStartsKeepRetained : Obligations.WarmStartsKeepRetained := by
  refine ⟨fun s straps vbakLow hop hlatch => ⟨fun hmain hrstn => ?_, fun hmain hrstn => ?_⟩,
    fun s straps vbakLow f left hop hmain hrstn hsending hpending => ?_⟩
  · simpa only [hop, hmain, hrstn] using
      returned_startsWarm straps vbakLow (fun i => exec_resetPinStart i hmain hrstn) hlatch
  · simpa only [hop] using returned_startsWarm straps vbakLow (fun i => exec_powerOnStart i hmain hrstn) hlatch
  · have hready := restartReady_of_sending hsending hpending
    refine ⟨⟨_, exec_restartTakesEffect _ hop hready, ?_⟩, ?_, ⟨_, exec_transmitFrameEnd_restart hop hready, ?_⟩⟩
    · exact startSequence_warmStarted s { s.supply with vbakLow := vbakLow } straps (by decide) hmain hrstn
    · exact (exec_restartTakesEffect _ hop hready).trans (congrArg _ (beginStart_outputsOff ..))
    · exact startSequence_warmStarted s s.supply s.link.straps (by decide) hmain hrstn

/-- Settles O5: the three stops by their equations, and a prepared start by what it has done. -/
theorem stopsTurnOutputsOff : Obligations.StopsTurnOutputsOff := by
  refine ⟨fun s => ⟨exec_mainPowerFail s, exec_rstnLow s, exec_vbakLow s⟩, fun s straps vbakLow _ hmain hrstn => ?_⟩
  refine ⟨_, exec_resetPinStart _ hmain hrstn, ?_, prepareStart_gate _ _ _, prepareStart_transmitter _ _ _⟩
  rw [State.start, prepareStart_supply]
  rfl

end Sys2Proof.Retention
end

section
/-! SUPPORT. The family of the command queue: a step on a queue that is not empty (log 1). -/

namespace Sys2Proof.CommandQueue

open Sys2Proof.Machine

/-- The step's equation on a queue that is not empty; on the empty queue see `CalendarClock.step_eq_choose`,
`step_eq_exec_due` and `step_eq_pass`. -/
theorem step_eq_exec_front {s : State} {c : Instr} {rest : List Instr} (hp : s.pending = c :: rest) :
    step s = exec c (s.setPending rest) := by
  simp only [step, hp]

/-- Settles O1: the step's equation on a queue that is not empty; replacing the queue twice keeps the second. -/
theorem stepRunsFrontCommand : Obligations.StepRunsFrontCommand := by
  intro c rest s
  have hrest : ({ s with pending := c :: rest } : State).setPending rest = { s with pending := rest } := rfl
  rw [step_eq_exec_front rfl, hrest]

end Sys2Proof.CommandQueue
end
